-- ==== Sys2Proof/Word.lean ====
section
/-! DEFINITION. The word types of the JB45 and the plainest arithmetic on them.

A link word is 32 bits (R1), a rack time stamp is the 48-bit RT_ns (R93). Tables of a fixed number of entries
are vectors indexed by `Fin n`; `mapAll` is the one operation that acts on every entry of a table. -/

namespace Sys2Proof

/-- A 32-bit link word (R1), also an operand, a result and a counter. -/
abbrev Word := BitVec 32

/-- A value of RT_ns: a 48-bit count of nanoseconds (R93). -/
abbrev Stamp := BitVec 48

/-- The word of all ones: an absent optional field in a request or a result (R19). -/
def absentWord : Word := BitVec.allOnes 32

/-- Apply `f` to every entry of a table. Built entry by entry, so that Lean's kernel can evaluate it. -/
def mapAll {α β : Type} {n : Nat} (f : α → β) (v : Vector α n) : Vector β n :=
  Vector.ofFn fun i => f v[i]

/-- Change one entry of a table. -/
def modifyAt {α : Type} {n : Nat} (v : Vector α n) (i : Fin n) (f : α → α) : Vector α n :=
  v.set i (f v[i])

end Sys2Proof
end

