-- ==== Sys2Proof/Syntax.lean ====
section
/-! DEFINITION. The commands of the JB45, one constructor of `Instr` per row of spec/opcode_table.json, and the
types of their operands: ports, frames, the fields of the nine message kinds, pin levels.

A command is one whole, indivisible step of the part (spec/95_what_each_step_holds.md): an event on a link or a
pin, the run-out of a timer, the end of a transmission, or the control unit's taking of the request at the head of
its request queue. A row for a request kind carries no operands of its own: the request, its operand words and its
arrival port stand at the head of the request queue (R161, R162), where the CONTROL_REQUEST row has put them. -/

namespace Sys2Proof

/-- A cable port, C0 to C3. -/
inductive Cable where
  | c0 | c1 | c2 | c3
deriving DecidableEq, Repr

/-- A port: one of the four cable ports, or the frame port F. -/
inductive Port where
  | cable (c : Cable)
  | f
deriving DecidableEq, Repr

/-- The cable ports in port number order. -/
def Cable.all : List Cable := [.c0, .c1, .c2, .c3]

/-- The ports in port number order: C0, C1, C2, C3, F (00_scope, Ports and port sets). -/
def Port.all : List Port := [.cable .c0, .cable .c1, .cable .c2, .cable .c3, .f]

/-- One value for each cable port. -/
structure PerCable (α : Type) where
  c0 : α
  c1 : α
  c2 : α
  c3 : α
deriving DecidableEq, Repr

/-- The value of one cable port. -/
def PerCable.get {α : Type} (t : PerCable α) : Cable → α
  | .c0 => t.c0
  | .c1 => t.c1
  | .c2 => t.c2
  | .c3 => t.c3

/-- Replace the value of one cable port. -/
def PerCable.set {α : Type} (t : PerCable α) (c : Cable) (x : α) : PerCable α :=
  match c with
  | .c0 => { t with c0 := x }
  | .c1 => { t with c1 := x }
  | .c2 => { t with c2 := x }
  | .c3 => { t with c3 := x }

/-- The table whose value at each cable port is given by a function. -/
def PerCable.of {α : Type} (g : Cable → α) : PerCable α := ⟨g .c0, g .c1, g .c2, g .c3⟩

/-- One value for each of the five ports. -/
structure PerPort (α : Type) where
  cables : PerCable α
  f      : α
deriving DecidableEq, Repr

/-- The value of one port. -/
def PerPort.get {α : Type} (t : PerPort α) : Port → α
  | .cable c => t.cables.get c
  | .f => t.f

/-- Replace the value of one port. -/
def PerPort.set {α : Type} (t : PerPort α) (p : Port) (x : α) : PerPort α :=
  match p with
  | .cable c => { t with cables := t.cables.set c x }
  | .f => { t with f := x }

/-- The table whose value at each port is given by a function. -/
def PerPort.of {α : Type} (g : Port → α) : PerPort α := ⟨PerCable.of fun c => g (.cable c), g .f⟩

/-- A frame number 0..31 (00_scope, Frame numbers). -/
abbrev Frame := Fin 32

/-- Frame number 31: unassigned. -/
def unassigned : Frame := 31

/-- A stream number 0..63 (R67). -/
abbrev StreamNo := Fin 64

/-- A rack trigger line 0..15. -/
abbrev Line := Fin 16

/-- A destination: a frame, or NEIGHBOUR, the hub at the other end of the link (00_scope, Frame numbers). -/
inductive Dest where
  | frame (n : Frame)
  | neighbour
deriving DecidableEq, Repr

/-- The timing role (R95), coded FOLLOW 0, SOURCE 1. -/
inductive Role where
  | follow | source
deriving DecidableEq, Repr

/-- Timing quality (00_scope, Timing quality). -/
inductive Quality where
  | untraced | holdover | traceable
deriving DecidableEq, Repr

/-- A sample block as a receiver hands it on: the fields of R19, the quality as its 2-bit code. -/
structure SampleMsg where
  stream  : StreamNo
  quality : BitVec 2
  seq     : BitVec 8
  stamp   : Stamp
  samples : List Word
deriving DecidableEq, Repr

/-- A CONTROL REQUEST (R19). -/
structure RequestMsg where
  dest     : Dest
  origin   : Frame
  tag      : BitVec 4
  hop      : BitVec 4
  kind     : BitVec 8
  operands : List Word
deriving DecidableEq, Repr

/-- A CONTROL REPLY (R19); the outcome is carried as its 4-bit code, whatever its value. -/
structure ReplyMsg where
  dest    : Dest
  origin  : Frame
  tag     : BitVec 4
  hop     : BitVec 4
  kind    : BitVec 8
  outcome : BitVec 4
  results : List Word
deriving DecidableEq, Repr

/-- A NOTICE (R19). -/
structure NoticeMsg where
  dest   : Dest
  origin : Frame
  hop    : BitVec 4
  flags  : BitVec 12
deriving DecidableEq, Repr

/-- A TRIGGER NOTICE (R19); the quality as its 2-bit code. -/
structure TriggerMsg where
  origin  : Frame
  quality : BitVec 2
  line    : Line
  seq     : BitVec 8
  hop     : BitVec 4
  fire    : Stamp
deriving DecidableEq, Repr

/-- A TIME ANSWER (R19); the quality as its 2-bit code. -/
structure AnswerMsg where
  quality : BitVec 2
  rank    : BitVec 4
  number  : BitVec 8
  t2      : Stamp
  t3      : Stamp
deriving DecidableEq, Repr

/-- A HELLO (R19, R121). -/
structure HelloMsg where
  sender   : Frame
  upstream : Option Frame
  rank     : BitVec 4
  role     : Role
  parking  : Bool
deriving DecidableEq, Repr

/-- An ECHO (R19). -/
structure EchoMsg where
  returned : Bool
  number   : BitVec 8
deriving DecidableEq, Repr

/-- A message of one of the nine kinds, as it travels on a link. -/
inductive LinkMsg where
  | sample (m : SampleMsg)
  | request (m : RequestMsg)
  | reply (m : ReplyMsg)
  | notice (m : NoticeMsg)
  | trigger (m : TriggerMsg)
  | query (number : BitVec 8)
  | answer (m : AnswerMsg)
  | hello (m : HelloMsg)
  | echo (m : EchoMsg)
deriving DecidableEq, Repr

/-- How long ago a received message's first word passed the port's receive stamp point: ticks before the tick of taking. Its
receive stamp is RT_ns of that tick (R17). -/
abbrev Ago := Nat

/-- A message as a receiver hands it on, with the tick its receive stamp is of (R16, R17). -/
structure Received (α : Type) where
  stamp : Ago
  msg   : α
deriving DecidableEq, Repr

/-- How a message comes to have a check failure (R10, R12, R8). -/
inductive CheckCause where
  /-- The check word does not pass R7. -/
  | checkWord
  /-- A count field is out of its range, so that the message has no length (R8, R12). -/
  | countField
  /-- A control word other than ABORT arrives while the message is being collected (R10). -/
  | cutShort
  /-- A data word arrives directly after a check word (R10). -/
  | overrun
deriving DecidableEq, Repr

/-- What the hub samples when RESETN is released: the seven straps (R193) and the levels of its input pins
(R21, R45, R134). -/
structure PinLevels where
  /-- FN4..FN0, high = 1. -/
  fn    : BitVec 5
  /-- SRC, high = true. -/
  src   : Bool
  /-- ADMIT, high = true. -/
  admits : Bool
  /-- CD0..CD3, present = true. -/
  cd    : PerCable Bool
  /-- FPRES, present = true. -/
  fpres : Bool
  /-- TRI0..TRI3, high = true. -/
  tri   : Vector Bool 4
deriving DecidableEq, Repr

/-- The commands: one constructor per row of spec/opcode_table.json. `p` is the port concerned, `c` a cable port.
`stamp` is the tick of the receive stamp: how many ticks before the taking the message's first word passed the port's receive
stamp point (R10, R17); the hub's own record of RT_ns gives the value (`State.rxStamp`). Every message has one, whether its
owner reads it or not. The kinds whose owner reads no stamp carry it in `Received`. -/
inductive Instr where
  -- Resets (R193, R199, R169)
  | pinReset (pins : PinLevels)
  | hubRestart
  | restartTakesEffect
  -- Pins and line events of a port
  | detectEdge (c : Cable) (present : Bool)
  | fEntersActive
  | fEntersDown
  | receiverAligned (c : Cable)
  | lossOfAlignment (p : Port)
  | retrainingSeen (c : Cable)
  | headingFault (p : Port)
  | checkFailure (p : Port) (cause : CheckCause)
  | addressCodeFault (p : Port)
  | abortedMessage (p : Port)
  -- Timers of a port, ends of transmissions
  | decayStep (c : Cable)
  | trainingAttemptTimeout (c : Cable)
  | echoWaitExpiry (c : Cable)
  | greetingWaitExpiry (c : Cable)
  | helloRepeat (c : Cable)
  | helloRefresh (c : Cable)
  | cleanRunTimerRunsOut (c : Cable)
  | transmissionEnds (p : Port)
  | parkingHelloEnds (c : Cable)
  -- Good messages, handed on by a receiver (R16)
  | sampleBlock (p : Port) (stamp : Ago) (m : SampleMsg)
  | controlRequest (p : Port) (m : Received RequestMsg)
  | controlReply (p : Port) (m : Received ReplyMsg)
  | notice (p : Port) (m : Received NoticeMsg)
  | triggerNotice (p : Port) (m : Received TriggerMsg)
  | delayQuery (p : Port) (stamp : Ago) (number : BitVec 8)
  | timeAnswer (p : Port) (stamp : Ago) (m : AnswerMsg)
  | hello (p : Port) (m : Received HelloMsg)
  | echo (p : Port) (stamp : Ago) (m : EchoMsg)
  -- Timers of the rack time unit and the selector, long operations
  | queryTimerExpiry
  | answerWaitEnds
  | holdoverLimitReached
  | muteTimerRunsOut (c : Cable)
  | drainCloses (c : Cable)
  | drainTimeout (c : Cable)
  | loopTestReturn (c : Cable) (stamp : Ago) (number : BitVec 8)
  | loopTestTimeout (c : Cable)
  -- Triggers and cadences
  | inputEdge (i : Fin 4) (level : Bool)
  | firing
  | pinCountRunsOut (i : Fin 4)
  | cadenceEdgeTaken (k : Fin 2)
  | cadencePulseEnds (k : Fin 2)
  -- The control unit takes the request at the head of its queue (R162)
  | unknownRequestKind
  | readIdentity
  | setFrameNumber
  | readPort
  | setPort
  | drainPort
  | restorePort
  | loopTest
  | writeStream
  | readStream
  | clearStream
  | stageRoute
  | writeFrameRoute
  | readFrameRoute
  | writeTriggerMap
  | readTriggerMap
  | setTriggerPin
  | setTriggerInput
  | originateTrigger
  | setCadence
  | readCadence
  | setTiming
  | readTiming
  | setTime
  | setReport
  | readNotices
  | clearNotices
  | readCounters
  | clearCounters
  -- A control word ends a receiver's hunt or wait (R9, R10, R11)
  | huntEnds (p : Port)
deriving DecidableEq, Repr

end Sys2Proof
end

