-- ==== Sys2Proof/WellFormed.lean ====
section
/-! DEFINITION. Well-formed messages and commands.

The types of Syntax.lean already hold every field to its width. What they leave open is the length of the three
lists: a good SAMPLE BLOCK carries 1..64 samples, a CONTROL REQUEST 0..12 operands and a CONTROL REPLY 0..16
results (R8). A count outside its range is a check failure (R12), so no receiver hands such a message on. -/

namespace Sys2Proof

/-- R8: the sample count of a SAMPLE BLOCK is 1..64. -/
abbrev SampleMsg.WellFormed (m : SampleMsg) : Prop := 1 ≤ m.samples.length ∧ m.samples.length ≤ 64

/-- R8: the operand count of a CONTROL REQUEST is 0..12. -/
abbrev RequestMsg.WellFormed (m : RequestMsg) : Prop := m.operands.length ≤ 12

/-- R8: the result count of a CONTROL REPLY is 0..16. -/
abbrev ReplyMsg.WellFormed (m : ReplyMsg) : Prop := m.results.length ≤ 16

/-- R8: the length of the message, as a Bool. -/
def LinkMsg.wellFormed : LinkMsg → Bool
  | .sample m => decide m.WellFormed
  | .request m => decide m.WellFormed
  | .reply m => decide m.WellFormed
  | .notice _ | .trigger _ | .query _ | .answer _ | .hello _ | .echo _ => true

/-- The message a command hands on, for the nine rows that stand for the taking of a good message (R16). -/
def Instr.message? : Instr → Option LinkMsg
  | .sampleBlock _ _ m => some (.sample m)
  | .controlRequest _ m => some (.request m.msg)
  | .controlReply _ m => some (.reply m.msg)
  | .notice _ m => some (.notice m.msg)
  | .triggerNotice _ m => some (.trigger m.msg)
  | .delayQuery _ _ n => some (.query n)
  | .timeAnswer _ _ m => some (.answer m)
  | .hello _ m => some (.hello m.msg)
  | .echo _ _ m => some (.echo m)
  | _ => none

/-- A command is well-formed when the message it hands on, if any, is. -/
def Instr.wellFormed (i : Instr) : Bool :=
  match i.message? with
  | some m => m.wellFormed
  | none => true

end Sys2Proof
end

