-- ==== Sys2Proof/Decode.lean ====
section
/-! DEFINITION. The host's decoder of table words.

spec/opcode_table.json gives no bits to any of its rows: a command of this block is an event, not a word (the
words of the LINK are read and written in Machine/Link.lean). So no word spells a command. -/

namespace Sys2Proof

/-- The command a table word spells: none, since no row of the table has bits. -/
def decodeTableWord (_nbits _w : Nat) : Option Instr := none

end Sys2Proof
end

