-- ==== Sys2Proof/Config.lean ====
section
/-! DEFINITION. Constants of the part: durations in ticks of the local oscillator (8 ns at the nominal 125 MHz,
00_scope Rack time), capacities, ranges, and the pin levels that `State.reset` presumes.

One choice of the spec's stays free: an `opaque` constant. -/

namespace Sys2Proof.Config

/-- 100 µs in ticks (R24, R43). -/
def ticks100us : Nat := 12500

/-- 1 ms in ticks (R26, R30). -/
def ticks1ms : Nat := 125000

/-- 2 ms in ticks (R24, R101). -/
def ticks2ms : Nat := 250000

/-- 10 ms in ticks (R26). -/
def ticks10ms : Nat := 1250000

/-- 1 s in ticks (R34, R122, R128). -/
def ticks1s : Nat := 125000000

/-- The ticks that the longest message occupies a link: 68 words at HALF rate (R8). -/
def longestTicks : Nat := 272

/-- The tallest error budget (R30). -/
def budgetMax : Nat := 8

/-- Capacity of a timing queue (R55). -/
def timingCap : Nat := 2

/-- Capacity of a trigger queue (R55). -/
def triggerCap : Nat := 8

/-- Capacity of a control queue (R55). -/
def controlCap : Nat := 8

/-- Capacity of the urgent and bulk queues of a port together (R55). -/
def sampleCap : Nat := 48

/-- Capacity of the request queue (R161). -/
def requestCap : Nat := 8

/-- Capacity of the recent-trigger list (R139). -/
def recentCap : Nat := 16

/-- Capacity of the trigger schedule (R142). -/
def scheduleCap : Nat := 8

/-- Capacity of the delay history (R107). -/
def historyCap : Nat := 8

/-- The bulk pass count at which a bulk entry goes ahead (R59). -/
def bulkPassMax : Nat := 7

/-- The end of the range of C and of I (R94). -/
def rateMax : Int := 26843

/-- R129 leaves open whether a loss by missed answers or another change of the upstream comes to the selector first when the two
meet. Free choice (log entry 32): of the loss numbered `n`, whether its report is overtaken. -/
opaque lossOvertaken (n : Nat) : Bool

/-- The pin levels `State.reset` presumes. DESIGN CHOICE (log entry 1): the spec fixes what an UNCONNECTED strap
reads (R193: high), and nothing for the other pins; every strap is taken as unconnected, every cable and the frame
endpoint as absent, every trigger input as low. The PIN_RESET command carries whatever levels the pins have. -/
def unconnectedPins : PinLevels where
  fn := 31#5
  src := true
  admits := true
  cd := ⟨false, false, false, false⟩
  fpres := false
  tri := Vector.replicate 4 false

end Sys2Proof.Config
end

