-- ==== Sys2Proof/Machine/State.lean ====
section
/-! DEFINITION. The state of the JB45, block by block (00_scope, Block diagram), as plain data; the reasons a step
can stop; and the state after pin reset.

Conventions (log entries 2 and 3): a timer is held as the local-oscillator tick at which it runs out (absent:
stopped), a remembered time as the tick at which it was taken; `State.now` counts ticks from pin reset. The time a
timer has left is the difference. -/

namespace Sys2Proof.Machine

/-! ### Counters (R14, R70, R117, R156, R179, R189, R190) -/

/-- The PORT LINK counters of a port, in the order of R190. -/
inductive LinkCounter where
  | headingFaults | checkFailures | addressFaults | aborted | trainingRetries | notInService | frameClashes
  | faults | quarantines
deriving DecidableEq, Repr

/-- Position of a PORT LINK counter in its group (R190). -/
def LinkCounter.idx : LinkCounter → Fin 9
  | .headingFaults => 0 | .checkFailures => 1 | .addressFaults => 2 | .aborted => 3 | .trainingRetries => 4
  | .notInService => 5 | .frameClashes => 6 | .faults => 7 | .quarantines => 8

/-- The PORT TRAFFIC counters of a port, in the order of R190. -/
inductive TrafficCounter where
  | timingDrops | triggerDrops | queueFull | cut | flushed | parkDiscards | unassignedDrops | unknownStream
deriving DecidableEq, Repr

/-- Position of a PORT TRAFFIC counter in its group (R190). -/
def TrafficCounter.idx : TrafficCounter → Fin 8
  | .timingDrops => 0 | .triggerDrops => 1 | .queueFull => 2 | .cut => 3 | .flushed => 4 | .parkDiscards => 5
  | .unassignedDrops => 6 | .unknownStream => 7

/-- The STREAM counters of a stream number, in the order of R190. -/
inductive StreamCounter where
  | forwarded | misrouted | lengthMismatch | stale | gap | gated | late | noPath | shed | queueFull
deriving DecidableEq, Repr

/-- Position of a STREAM counter in its group (R190). -/
def StreamCounter.idx : StreamCounter → Fin 10
  | .forwarded => 0 | .misrouted => 1 | .lengthMismatch => 2 | .stale => 3 | .gap => 4 | .gated => 5 | .late => 6
  | .noPath => 7 | .shed => 8 | .queueFull => 9

/-- The TIMING counters, in the order of R190. -/
inductive TimingCounter where
  | queriesSent | queriesAnswered | answersAccepted | answersDiscarded | missedAnswers | negativeRounds | outliers
  | historyRestarts | steps
deriving DecidableEq, Repr

/-- Position of a TIMING counter in its group (R190). -/
def TimingCounter.idx : TimingCounter → Fin 9
  | .queriesSent => 0 | .queriesAnswered => 1 | .answersAccepted => 2 | .answersDiscarded => 3 | .missedAnswers => 4
  | .negativeRounds => 5 | .outliers => 6 | .historyRestarts => 7 | .steps => 8

/-- The TRIGGER counters, in the order of R190; the cadence counters carry their unit. -/
inductive TriggerCounter where
  | noticesTaken | noticesOriginated | heldOff | malformed | duplicates | copiesForwarded | entriesScheduled
  | overflows | firings | lateFirings | mergedFirings | pulses (k : Fin 2) | suppressed (k : Fin 2)
deriving DecidableEq, Repr

/-- Position of a TRIGGER counter in its group (R190). -/
def TriggerCounter.idx : TriggerCounter → Fin 15
  | .noticesTaken => 0 | .noticesOriginated => 1 | .heldOff => 2 | .malformed => 3 | .duplicates => 4
  | .copiesForwarded => 5 | .entriesScheduled => 6 | .overflows => 7 | .firings => 8 | .lateFirings => 9
  | .mergedFirings => 10 | .pulses k => if k = 0 then 11 else 12 | .suppressed k => if k = 0 then 13 else 14

/-- The CONTROL counters, in the order of R190. -/
inductive ControlCounter where
  | requestsQueued | queueFullRefusals | repliesIssued | repliesUndeliverable | unassignedDiscards
  | unreachableAnswers | forwardBusyAnswers | requestsForwarded | repliesForwarded | forwardDrops
  | deliveredToFrame | deliveryDrops | noticesSent | noticesNotSent
deriving DecidableEq, Repr

/-- Position of a CONTROL counter in its group (R190). -/
def ControlCounter.idx : ControlCounter → Fin 14
  | .requestsQueued => 0 | .queueFullRefusals => 1 | .repliesIssued => 2 | .repliesUndeliverable => 3
  | .unassignedDiscards => 4 | .unreachableAnswers => 5 | .forwardBusyAnswers => 6 | .requestsForwarded => 7
  | .repliesForwarded => 8 | .forwardDrops => 9 | .deliveredToFrame => 10 | .deliveryDrops => 11
  | .noticesSent => 12 | .noticesNotSent => 13

/-- One counter of the hub. -/
inductive CounterId where
  | link (p : Port) (c : LinkCounter)
  | traffic (p : Port) (c : TrafficCounter)
  | stream (n : StreamNo) (c : StreamCounter)
  | timing (c : TimingCounter)
  | trigger (c : TriggerCounter)
  | control (c : ControlCounter)
deriving DecidableEq, Repr

/-- The counter bank: every counter of the hub, in its groups (R189, R190). -/
structure Bank where
  link    : PerPort (Vector Word 9)
  traffic : PerPort (Vector Word 8)
  stream  : Vector (Vector Word 10) 64
  timing  : Vector Word 9
  trigger : Vector Word 15
  control : Vector Word 14
deriving DecidableEq, Repr

/-- Every counter at 0 (pin reset and HUB RESTART, R189, R192). -/
def Bank.zero : Bank where
  link := PerPort.of fun _ => Vector.replicate 9 0#32
  traffic := PerPort.of fun _ => Vector.replicate 8 0#32
  stream := Vector.replicate 64 (Vector.replicate 10 0#32)
  timing := Vector.replicate 9 0#32
  trigger := Vector.replicate 15 0#32
  control := Vector.replicate 14 0#32

/-! ### Ports (02_cable_ports, 03_block_buffers_and_output_queues) -/

/-- The rate of a cable port (R2), coded FULL 0, HALF 1. -/
inductive Rate where
  | full | half
deriving DecidableEq, Repr

/-- The state of a cable port (R20), coded in this order from 0. -/
inductive PortState where
  | dark | training | greeting | active | draining | parked | quarantined
deriving DecidableEq, Repr

/-- What a receiver waits for (R9, R10, R11). The collecting of a message is inside the command that hands it on or
ends it early (log entry 5). -/
inductive RxPhase where
  /-- Waiting for a control word, after becoming listening, gaining alignment, an ABORT or a fault found at the check word; data
  words are passed over. -/
  | awaitControl
  /-- Directly after the check word of a good message: a data word now is a framing error. -/
  | afterCheck
  /-- A control word has been received: the next data word starts a message. -/
  | ready
  /-- Hunting for a control word after a fault. -/
  | hunting
deriving DecidableEq, Repr

/-- An entry of a timing queue (R55). -/
inductive TimingEntry where
  | query (number : BitVec 8)
  | answer (number : BitVec 8) (t2 : Stamp)
deriving DecidableEq, Repr

/-- A control message (R55). -/
inductive ControlMsg where
  | request (m : RequestMsg)
  | reply (m : ReplyMsg)
  | notice (m : NoticeMsg)
deriving DecidableEq, Repr

/-- An entry of a control queue (R55). `restart` marks the DONE reply of a HUB RESTART, whose end makes the restart
take effect (R169); the mark is the model's own (log entry 7). -/
structure ControlEntry where
  msg     : ControlMsg
  restart : Bool
deriving DecidableEq, Repr

/-- The five output queues of a port, oldest entry first (R55). -/
structure Queues where
  timing  : List TimingEntry
  trigger : List TriggerMsg
  control : List ControlEntry
  urgent  : List (Fin 96)
  bulk    : List (Fin 96)
deriving DecidableEq, Repr

/-- Five empty queues. -/
def Queues.empty : Queues := ⟨[], [], [], [], []⟩

/-- Where a message in transmission came from: the port unit's own link maintenance, the parking HELLO, or one of the
queues. -/
inductive TxSource where
  | maintenance
  | parking
  | timing
  | trigger
  | control (restart : Bool)
  | sample (slot : Fin 96)
deriving DecidableEq, Repr

/-- A transmission in progress: the message as built when it started (R60), where it came from, the tick on which its
first word passes the transmit stamp point, the tick at which its last word has left (R8), and its transmit stamp, absent
until the first word passes (R17). The IDLE that precedes the first word (R3) belongs to it (log entry 31). -/
structure Tx where
  msg      : LinkMsg
  source   : TxSource
  startsAt : Nat
  endsAt   : Nat
  stamp    : Option Stamp
deriving DecidableEq, Repr

/-- What a transmitter still sends between two transmissions (R3). -/
inductive OwedWord where
  /-- The word of a cut message that was leaving at the cut. -/
  | word (m : LinkMsg)
  /-- IDLE, after a check word. -/
  | idle
  /-- ABORT, in place of a cut message's next word. -/
  | abort
deriving DecidableEq, Repr

/-- A word that is owed, the tick at which it begins and the tick at which it has left. -/
structure Owed where
  word   : OwedWord
  starts : Nat
  ends   : Nat
deriving DecidableEq, Repr

/-- What every port has, cable port or F: receiver, transmitter and output queues. -/
structure PortUnit where
  /-- The receiver is aligned (R9, R23). -/
  aligned  : Bool
  /-- What the receiver waits for. -/
  rx       : RxPhase
  /-- The transmission in progress, if any. -/
  tx       : Option Tx
  /-- What is owed after the last transmission, in the order in which it leaves (R3); empty once a first word has left. -/
  owed     : List Owed
  queues   : Queues
  /-- The bulk pass count 0..7 (R59). -/
  bulkPass : Nat
deriving DecidableEq, Repr

/-- The neighbour table entry of a cable port (R27). -/
structure Neighbour where
  frame    : Frame
  rank     : BitVec 4
  upstream : Option Frame
  role     : Role
deriving DecidableEq, Repr

/-- The record of a pending long operation (R168); its kind and its port operand are told by where it stands. -/
structure LongOp where
  arrival : Port
  origin  : Frame
  tag     : BitVec 4
deriving DecidableEq, Repr

/-- A pending drain (R37): its request, the tick at which its timeout runs out (absent once it has closed, R38), its
discard count, and whether it has closed. -/
structure Drain where
  op       : LongOp
  timeout  : Option Nat
  discards : Nat
  closed   : Bool
deriving DecidableEq, Repr

/-- A pending loop test (R43): its request, its echo number, and, once its ECHO has started, the transmit stamp and the
tick at which its 100 µs have passed. -/
structure LoopTest where
  op      : LongOp
  number  : BitVec 8
  sent    : Option Stamp
  timeout : Option Nat
deriving DecidableEq, Repr

/-- The outstanding echo of a training port: its number and the tick at which its 100 µs have passed (R24). -/
structure EchoWait where
  number : BitVec 8
  until_ : Nat
deriving DecidableEq, Repr

/-- What a cable-port unit holds beside its `PortUnit` (02_cable_ports, What a port unit holds). -/
structure CableUnit where
  state       : PortState
  /-- Settings: admit-on-insert, timing-eligible, rate. -/
  admits       : Bool
  eligible    : Bool
  rate        : Rate
  suspect     : Bool
  /-- Error budget 0..8 (R30). -/
  budget      : Nat
  /-- Tick at which the freely running 1 ms decay timer next steps (R30). -/
  decayAt     : Nat
  /-- Tick of the last entry to ACTIVE. -/
  lastActive  : Option Nat
  /-- Tick at which the clean-run timer runs out (R34). -/
  cleanRun    : Option Nat
  /-- Debounced cable-detect level, present = true. -/
  level       : Bool
  inserted    : Bool
  removed     : Bool
  echoCounter : BitVec 8
  /-- Good-return run 0..2 and outstanding echo (R24). -/
  goodRun     : Nat
  outstanding : Option EchoWait
  /-- Tick at which the training attempt has lasted 2 ms (R24). -/
  attemptEnds : Option Nat
  /-- Tick at which the 10 ms greeting wait ends, and the tick of the next repeated HELLO (R26). -/
  greetEnds   : Option Nat
  repeatAt    : Option Nat
  /-- Tick at which 1 s has passed since the port last started a HELLO (R122). -/
  refreshAt   : Option Nat
  neighbour   : Option Neighbour
  drain       : Option Drain
  loop        : Option LoopTest
  /-- Link maintenance waiting to be sent (R25): a return, an own ECHO, a called-for HELLO. -/
  returnDue   : Option (BitVec 8)
  echoDue     : Option (BitVec 8)
  helloDue    : Bool
deriving DecidableEq, Repr

/-! ### Block buffer pool (R49..R54) -/

/-- What a holding slot holds (R49). -/
structure Holding where
  stream  : StreamNo
  /-- Reference count. -/
  refs    : Nat
  seq     : BitVec 8
  stamp   : Stamp
  quality : Quality
  samples : List Word
deriving DecidableEq, Repr

/-- The block buffer pool. A slot that is `none` is free: its reference count is 0 and its contents are not read. -/
structure Pool where
  slots     : Vector (Option Holding) 96
  /-- The free list, head first (R50). -/
  free      : List (Fin 96)
  /-- The held count of each stream number (R53). -/
  held      : Vector Nat 64
  watermark : Nat
deriving DecidableEq, Repr

/-- Every slot free, the free list 0 to 95 in ascending order, every held count 0 (R65, R66). -/
def Pool.empty (watermark : Nat) : Pool where
  slots := Vector.replicate 96 none
  free := List.finRange 96
  held := Vector.replicate 64 0
  watermark := watermark

/-! ### Streams (04_streams) -/

inductive StreamClass where
  | urgent | bulk
deriving DecidableEq, Repr

inductive StampMode where
  | carry | stampAtEntry
deriving DecidableEq, Repr

/-- The route of a stream: output set (bit 0 for C0 to bit 4 for F), protected port, alternate port (R67). -/
structure StreamRoute where
  outputs   : BitVec 5
  protect   : Option Port
  alternate : Option Port
deriving DecidableEq, Repr

/-- A stream table entry (R67). -/
structure StreamEntry where
  valid     : Bool
  owner     : Frame
  ingress   : Port
  route     : StreamRoute
  length    : Nat
  quota     : Nat
  cls       : StreamClass
  mode      : StampMode
  /-- Lateness bound in µs, 0 off. -/
  lateness  : Nat
  gateLine  : Option Line
  gateCount : Nat
deriving DecidableEq, Repr

/-- A pending route and its switch sequence (R69). -/
structure PendingRoute where
  route  : StreamRoute
  switch : BitVec 8
deriving DecidableEq, Repr

/-- The runtime state of a stream number (R69). -/
structure StreamRun where
  expected     : Option (BitVec 8)
  lastAdmitted : Option (BitVec 8)
  /-- The gate is OPEN. -/
  gateOpen     : Bool
  /-- Remaining count; absent: not counting. -/
  remaining    : Option Nat
  onAlternate  : Bool
  pendingRoute : Option PendingRoute
deriving DecidableEq, Repr

/-- The initial runtime state of a stream (R69): the gate is CLOSED exactly when the entry has a gate line. -/
def StreamRun.initial (hasGate : Bool) : StreamRun where
  expected := none
  lastAdmitted := none
  gateOpen := !hasGate
  remaining := none
  onAlternate := false
  pendingRoute := none

/-- One stream number: its table entry and its runtime state. -/
structure StreamUnit where
  entry : StreamEntry
  run   : StreamRun
deriving DecidableEq, Repr

/-- An entry after pin reset: invalid (R91). Its other fields are DESIGN CHOICE (log entry 1): the spec gives them no
value, and nothing reads them while the entry is invalid. -/
def StreamEntry.invalid : StreamEntry where
  valid := false
  owner := 0
  ingress := .cable .c0
  route := ⟨0#5, none, none⟩
  length := 0
  quota := 0
  cls := .urgent
  mode := .carry
  lateness := 0
  gateLine := none
  gateCount := 0

/-! ### Rack time (05_rack_time) and the upstream selector (06) -/

/-- The timing state (R95), coded in this order from 0. -/
inductive TimingState where
  | free | acquiring | locked | holdover | source
deriving DecidableEq, Repr

/-- The outstanding query (R101): number, port, t1 once sent, and the tick at which its answer wait ends. -/
structure Query where
  number   : BitVec 8
  port     : Cable
  t1       : Option Stamp
  waitEnds : Nat
deriving DecidableEq, Repr

/-- The settings of SET TIMING, less the role (R113). -/
structure TimingSettings where
  trim     : Int
  interval : Nat
  kp       : Nat
  ki       : Nat
  step     : Nat
  window   : Nat
  holdover : Nat
deriving DecidableEq, Repr

/-- The defaults of R113. -/
def TimingSettings.default : TimingSettings where
  trim := 0
  interval := 23
  kp := 3
  ki := 6
  step := 20000
  window := 100
  holdover := 10

/-- The rack time unit (05_rack_time, What the rack time unit holds). -/
structure RackTime where
  /-- The 72-bit counter: RT_ns in the upper 48 bits, the fraction in the lower 24 (R93). -/
  counter       : BitVec 72
  /-- The rate correction C and the integrator I, in units of 2^-24 ns per tick. -/
  correction    : Int
  integrator    : Int
  role          : Role
  state         : TimingState
  heldRate      : Bool
  /-- The tick at which the holdover timer started; absent: stopped (R99). -/
  holdoverSince : Option Nat
  /-- The tick at which the query timer expires; absent: stopped (R100). -/
  queryAt       : Option Nat
  /-- The query number q of the next query. -/
  queryNumber   : BitVec 8
  outstanding   : Option Query
  missedRun     : Nat
  /-- The delay history, oldest first, in ns (R107). -/
  history       : List Int
  outlierRun    : Nat
  lockRun       : Nat
  lastOffset    : Option Int
  settings      : TimingSettings
deriving DecidableEq, Repr

/-- The upstream selector (06, What the selector holds): the upstream port, for each cable port the tick at which its mute
timer runs out; and, the model's own (R129, log entry 32), the port of a loss by missed answers whose report is still to be
taken, and the number of such losses so far, which numbers the free choices `Config.lossOvertaken`. -/
structure Selector where
  upstream   : Option Cable
  mute       : PerCable (Option Nat)
  lossReport : Option Cable
  losses     : Nat
deriving DecidableEq, Repr

/-! ### Triggers and cadences (07) -/

/-- The edge setting of a trigger input (R134), coded in this order from 0. -/
inductive EdgeSetting where
  | off | rising | falling | both
deriving DecidableEq, Repr

/-- A trigger input: settings, sampled level, tick of the last origination. -/
structure TriggerInput where
  edge       : EdgeSetting
  line       : Line
  /-- Hold-off in ns. -/
  holdoff    : Nat
  level      : Bool
  lastOrigin : Option Nat
deriving DecidableEq, Repr

/-- A trigger map entry (R141). -/
structure MapEntry where
  valid : Bool
  line  : Line
  base  : Nat
  span  : Nat
  pin   : Option (Fin 4)
deriving DecidableEq, Repr

/-- The polarity of a trigger output pin, coded ACTIVE-HIGH 0, ACTIVE-LOW 1 (R148). -/
inductive Polarity where
  | activeHigh | activeLow
deriving DecidableEq, Repr

/-- A trigger output pin: settings, and the tick at which its remaining count runs out (absent: inactive). -/
structure TriggerPin where
  polarity    : Polarity
  /-- Width in ns, a multiple of 8. -/
  width       : Nat
  activeUntil : Option Nat
deriving DecidableEq, Repr

/-- What a schedule entry acts on: a pin, or the gates of its rack line (R143). -/
inductive Target where
  | pin (i : Fin 4)
  | gates
deriving DecidableEq, Repr

/-- A trigger schedule entry (07, What the trigger unit holds). -/
structure SchedEntry where
  fire    : Stamp
  target  : Target
  line    : Line
  origin  : Frame
  quality : Quality
  late    : Bool
deriving DecidableEq, Repr

/-- The trigger unit (07, What the trigger unit holds). -/
structure TriggerUnit where
  inputs        : Vector TriggerInput 4
  /-- The lead in ns. -/
  lead          : Nat
  originCounter : BitVec 8
  map           : Vector MapEntry 8
  pins          : Vector TriggerPin 4
  /-- Recent-trigger list: pairs (origin, sequence), oldest first (R139). -/
  recent        : List (Frame × BitVec 8)
  /-- Trigger schedule, earliest first (R142). -/
  schedule      : List SchedEntry
deriving DecidableEq, Repr

/-- The mode of a cadence unit (R151), coded in this order from 0. -/
inductive CadenceMode where
  | stopped | single | continuous
deriving DecidableEq, Repr

/-- The settings of a cadence unit (R151), in ns. -/
structure CadenceSettings where
  mode       : CadenceMode
  period     : Nat
  phase      : Nat
  width      : Nat
  lockedOnly : Bool
deriving DecidableEq, Repr

/-- A cadence unit: settings, pending settings, next edge, and the tick at which its high output goes low (absent:
low). -/
structure CadenceUnit where
  settings  : CadenceSettings
  pending   : Option CadenceSettings
  next      : Option Stamp
  highUntil : Option Nat
deriving DecidableEq, Repr

/-! ### Control unit (08) and notice unit (09) -/

/-- A request in the request queue, with its arrival port (08, What the control unit holds). -/
structure Request where
  arrival : Port
  msg     : RequestMsg
deriving DecidableEq, Repr

/-- A frame route table entry (R171). -/
structure FrameRoute where
  primary   : Option Cable
  alternate : Option Cable
deriving DecidableEq, Repr

/-- The control unit. The records of pending long operations stand in the port units (`CableUnit.drain`, `.loop`). -/
structure ControlUnit where
  queue          : List Request
  routes         : Vector FrameRoute 32
  restartPending : Bool
deriving DecidableEq, Repr

/-- The twelve notice flags (09), in the order of their bits. -/
inductive Flag where
  | portState | presence | quarantine | frameClash | upstream | timingState | timeStep | failover | routeAdopted
  | poolLow | scheduleOverflow | lateTrigger
deriving DecidableEq, Repr

/-- The notice unit. -/
structure NoticeUnit where
  flags  : BitVec 12
  mask   : BitVec 12
  report : Frame
deriving DecidableEq, Repr

/-- The straps as sampled at the last pin reset (R193). -/
structure Straps where
  fn    : BitVec 5
  src   : Bool
  admits : Bool
deriving DecidableEq, Repr

/-! ### The whole machine -/

/-- The state of the hub. -/
structure State where
  straps   : Straps
  /-- The frame number (R194). -/
  frame    : Frame
  ports    : PerPort PortUnit
  cables   : PerCable CableUnit
  /-- F is ACTIVE; this is also the debounced level of FPRES (R45). -/
  fActive  : Bool
  pool     : Pool
  streams  : Vector StreamUnit 64
  time     : RackTime
  selector : Selector
  trig     : TriggerUnit
  cadence  : Vector CadenceUnit 2
  ctl      : ControlUnit
  notices  : NoticeUnit
  counters : Bank
  /-- Ticks of the local oscillator since pin reset; the model's own (log entry 2). -/
  now      : Nat
  /-- RT_ns as the stamps of this tick take it (R17): as it stood when the tick began, since a step made in this tick shows in
  stamps from the next tick on (R109, R112). -/
  stampNs  : Stamp
  /-- What the stamps of each tick before this one took, newest first, as far back as the longest message reaches (R17; log
  entry 10). -/
  stamps   : List Stamp
  /-- The commands that are waiting, first in, first out; the model's own. -/
  pending  : List Instr
deriving DecidableEq, Repr

/-- The reasons a step can stop with a fault: none. The spec names no event that stops the hub; an event that reaches a
state its rule does not name leaves the state as it is (R20). -/
inductive Fault where
deriving DecidableEq, Repr

/-- The reasons a step can be refused. -/
inductive Refusal where
  /-- Raised by an arm of `exec` for a row that has no meaning in the model yet, with the row's mnemonic; safe (the model
  stops where the hardware goes on). No arm raises it. -/
  | notModelled (mnemonic : String)
deriving DecidableEq, Repr

/-! ### Pin reset -/

/-- A port unit after pin reset: nothing collected, hunted, queued or sent (R9, R65); F's receiver aligns by itself
while F is ACTIVE (R9). -/
def PortUnit.atReset (aligned : Bool) : PortUnit where
  aligned := aligned
  rx := .awaitControl
  tx := none
  owed := []
  queues := Queues.empty
  bulkPass := 0

/-- The first state of a cable port (R47). -/
def PortState.first (admits level : Bool) : PortState :=
  match level, admits with
  | false, _ => .dark
  | true, true => .training
  | true, false => .parked

/-- A cable-port unit after pin reset (R47). -/
def CableUnit.atReset (admits level : Bool) : CableUnit where
  state := PortState.first admits level
  admits := admits
  eligible := true
  rate := .full
  suspect := false
  budget := 0
  decayAt := Config.ticks1ms
  lastActive := none
  cleanRun := none
  level := level
  inserted := false
  removed := false
  echoCounter := 0#8
  goodRun := 0
  outstanding := none
  attemptEnds := if level && admits then some Config.ticks2ms else none
  greetEnds := none
  repeatAt := none
  refreshAt := none
  neighbour := none
  drain := none
  loop := none
  returnDue := none
  echoDue := none
  helloDue := false

/-- The rack time unit after pin reset (R118). -/
def RackTime.atReset (src : Bool) : RackTime where
  counter := 0#72
  correction := 0
  integrator := 0
  role := if src then .source else .follow
  state := if src then .source else .free
  heldRate := false
  holdoverSince := none
  queryAt := if src then none else some (2 ^ TimingSettings.default.interval)
  queryNumber := 0#8
  outstanding := none
  missedRun := 0
  history := []
  outlierRun := 0
  lockRun := 0
  lastOffset := none
  settings := TimingSettings.default

/-- The trigger unit after pin reset (R157, R134). -/
def TriggerUnit.atReset (tri : Vector Bool 4) : TriggerUnit where
  inputs := mapAll (fun level => ⟨.off, 0, 0, level, none⟩) tri
  lead := 50000
  originCounter := 0#8
  map := Vector.replicate 8 ⟨false, 0, 0, 1, none⟩
  pins := Vector.replicate 4 ⟨.activeHigh, 8, none⟩
  recent := []
  schedule := []

/-- A cadence unit after pin reset (R157). -/
def CadenceUnit.atReset : CadenceUnit where
  settings := ⟨.stopped, 1000000, 0, 500000, false⟩
  pending := none
  next := none
  highUntil := none

/-- The state pin reset leaves, for the levels sampled at the release of RESETN (R193, R194, R47, R65, R91, R118, R132,
R157, R180, R183, R189), with the commands that are still waiting. -/
def State.atPinReset (pins : PinLevels) (waiting : List Instr) : State where
  straps := ⟨pins.fn, pins.src, pins.admits⟩
  frame := pins.fn.toFin
  ports := ⟨PerCable.of fun _ => PortUnit.atReset false, PortUnit.atReset pins.fpres⟩
  cables := PerCable.of fun c => CableUnit.atReset pins.admits (pins.cd.get c)
  fActive := pins.fpres
  pool := Pool.empty 16
  streams := Vector.replicate 64 ⟨StreamEntry.invalid, StreamRun.initial false⟩
  time := RackTime.atReset pins.src
  selector := ⟨none, PerCable.of fun _ => none, none, 0⟩
  trig := TriggerUnit.atReset pins.tri
  cadence := Vector.replicate 2 CadenceUnit.atReset
  ctl := ⟨[], Vector.replicate 32 ⟨none, none⟩, false⟩
  notices := ⟨0#12, BitVec.allOnes 12, pins.fn.toFin⟩
  counters := Bank.zero
  now := 0
  stampNs := 0#48
  stamps := []
  pending := waiting

/-- The machine right after reset: pin reset with the pin levels `Config.unconnectedPins` presumes, nothing waiting. -/
def State.reset : State := State.atPinReset Config.unconnectedPins []

end Sys2Proof.Machine
end

