-- ==== Sys2Proof/Machine/Arith.lean ====
section
/-! DEFINITION. The arithmetic the rules name: signed differences of rack times, saturating counters, the floor shift
of the timing loop, ceilings, and the 48-bit and signed words of requests and results. -/

namespace Sys2Proof

/-- The quality that a 2-bit code stands for; code 3 is read as UNTRACED (R19). -/
def Quality.ofCode (c : BitVec 2) : Quality :=
  if c = 2#2 then .traceable else if c = 1#2 then .holdover else .untraced

/-- The 2-bit code of a quality (R19). -/
def Quality.code : Quality → BitVec 2
  | .untraced => 0#2
  | .holdover => 1#2
  | .traceable => 2#2

/-- The number of a port: 0 to 3 for C0 to C3 (R19). -/
def Cable.number : Cable → Nat
  | .c0 => 0 | .c1 => 1 | .c2 => 2 | .c3 => 3

/-- The number of a port: 0 to 3 for C0 to C3 and 4 for F (R19). -/
def Port.number : Port → Nat
  | .cable c => c.number
  | .f => 4

/-- The port of a port number, if it is one. -/
def Port.ofNat? : Nat → Option Port
  | 0 => some (.cable .c0)
  | 1 => some (.cable .c1)
  | 2 => some (.cable .c2)
  | 3 => some (.cable .c3)
  | 4 => some .f
  | _ => none

/-- A port set holds a port: bit 0 for C0 through bit 4 for F (R19). -/
def portIn (p : Port) (set : BitVec 5) : Bool := set.getLsbD p.number

end Sys2Proof

namespace Sys2Proof.Machine

/-- The difference a − b of two rack times, modulo 2^48, as a signed value (00_scope, Rack time). -/
def stampDiff (a b : Stamp) : Int := (a - b).toInt

/-- A counter plus `n`, saturating at 2^32 − 1 (R189). -/
def satAdd (c : Word) (n : Nat) : Word := BitVec.ofNat 32 (min (c.toNat + n) (2 ^ 32 - 1))

/-- `x` clamped into `lo … hi`. -/
def clampInt (lo hi x : Int) : Int := max lo (min hi x)

/-- `x` clamped into `lo … hi`. -/
def clampNat (lo hi x : Nat) : Nat := max lo (min hi x)

/-- The clamp of R94 on every value written to C or I. -/
def clampRate (x : Int) : Int := clampInt (-Config.rateMax) Config.rateMax x

/-- `x` times 2 raised to `e`: for a negative `e` an arithmetic right shift, which rounds toward −∞ (R110). -/
def mulPow2 (x : Int) (e : Int) : Int :=
  if 0 ≤ e then x * 2 ^ e.toNat else x / 2 ^ (-e).toNat

/-- Quotient rounded up. -/
def ceilDiv (a b : Nat) : Nat := (a + b - 1) / b

/-- A 48-bit time as two words: the high 16 bits, then the low 32 bits (R19). -/
def stampWords (t : Stamp) : List Word := [(t.extractLsb' 32 16).setWidth 32, t.extractLsb' 0 32]

/-- A yes/no or on/off field as a word (R19). -/
def boolWord (b : Bool) : Word := if b then 1#32 else 0#32

/-- A number as a word. -/
def natWord (n : Nat) : Word := BitVec.ofNat 32 n

/-- A signed value as a word, in two's complement (R19). -/
def intWord (x : Int) : Word := BitVec.ofInt 32 x

/-- An optional field as a word: all ones when absent (R19). -/
def optWord {α : Type} (f : α → Word) : Option α → Word
  | some x => f x
  | none => absentWord

/-- A signed value limited to −2^31 … 2^31 − 1 (R43, R115). -/
def limit32 (x : Int) : Int := clampInt (-2 ^ 31) (2 ^ 31 - 1) x

/-- RT_ns: the upper 48 bits of the counter (R93). -/
def RackTime.ns (t : RackTime) : Stamp := t.counter.extractLsb' 24 48

/-- The counter whose RT_ns is `x` and whose fraction is that of `c`. -/
def withNs (c : BitVec 72) (x : Stamp) : BitVec 72 := x ++ c.extractLsb' 0 24

end Sys2Proof.Machine
end

