-- ==== Sys2Proof/Machine/Flags.lean ====
section
/-! DEFINITION. The named updates of the state, one per block, and the two records that every block writes: the
notice flags (R182) and the counters (R189). -/

namespace Sys2Proof.Machine

/-! ### One update per block -/

/-- Change the port unit of `p`. -/
def State.modPort (s : State) (p : Port) (f : PortUnit → PortUnit) : State :=
  { s with ports := s.ports.set p (f (s.ports.get p)) }

/-- Change the cable-port unit of `c`. -/
def State.modCable (s : State) (c : Cable) (f : CableUnit → CableUnit) : State :=
  { s with cables := s.cables.set c (f (s.cables.get c)) }

/-- Change the output queues of `p`. -/
def State.modQueues (s : State) (p : Port) (f : Queues → Queues) : State :=
  s.modPort p fun u => { u with queues := f u.queues }

/-- Change the block buffer pool. -/
def State.modPool (s : State) (f : Pool → Pool) : State := { s with pool := f s.pool }

/-- Change the table entry of a stream number. -/
def State.modEntry (s : State) (n : StreamNo) (f : StreamEntry → StreamEntry) : State :=
  { s with streams := modifyAt s.streams n fun u => { u with entry := f u.entry } }

/-- Change the runtime state of a stream number. -/
def State.modRun (s : State) (n : StreamNo) (f : StreamRun → StreamRun) : State :=
  { s with streams := modifyAt s.streams n fun u => { u with run := f u.run } }

/-- Change the rack time unit. -/
def State.modTime (s : State) (f : RackTime → RackTime) : State := { s with time := f s.time }

/-- Change the upstream selector. -/
def State.modSelector (s : State) (f : Selector → Selector) : State := { s with selector := f s.selector }

/-- Change the trigger unit. -/
def State.modTrig (s : State) (f : TriggerUnit → TriggerUnit) : State := { s with trig := f s.trig }

/-- Change a cadence unit. -/
def State.modCadence (s : State) (k : Fin 2) (f : CadenceUnit → CadenceUnit) : State :=
  { s with cadence := modifyAt s.cadence k f }

/-- Change the control unit. -/
def State.modCtl (s : State) (f : ControlUnit → ControlUnit) : State := { s with ctl := f s.ctl }

/-- Change the notice unit. -/
def State.modNotices (s : State) (f : NoticeUnit → NoticeUnit) : State := { s with notices := f s.notices }

/-- The port unit of a port. -/
def State.port (s : State) (p : Port) : PortUnit := s.ports.get p

/-- The cable-port unit of a cable port. -/
def State.cable (s : State) (c : Cable) : CableUnit := s.cables.get c

/-- The table entry of a stream number. -/
def State.entry (s : State) (n : StreamNo) : StreamEntry := s.streams[n].entry

/-- The runtime state of a stream number. -/
def State.run (s : State) (n : StreamNo) : StreamRun := s.streams[n].run

/-! ### Counters -/

/-- The value of a counter. -/
def Bank.get (b : Bank) : CounterId → Word
  | .link p c => (b.link.get p)[c.idx]
  | .traffic p c => (b.traffic.get p)[c.idx]
  | .stream n c => b.stream[n][c.idx]
  | .timing c => b.timing[c.idx]
  | .trigger c => b.trigger[c.idx]
  | .control c => b.control[c.idx]

/-- Increment a counter by `k`, saturating (R189). -/
def Bank.add (b : Bank) (i : CounterId) (k : Nat) : Bank :=
  match i with
  | .link p c => { b with link := b.link.set p (modifyAt (b.link.get p) c.idx (satAdd · k)) }
  | .traffic p c => { b with traffic := b.traffic.set p (modifyAt (b.traffic.get p) c.idx (satAdd · k)) }
  | .stream n c => { b with stream := modifyAt b.stream n fun g => modifyAt g c.idx (satAdd · k) }
  | .timing c => { b with timing := modifyAt b.timing c.idx (satAdd · k) }
  | .trigger c => { b with trigger := modifyAt b.trigger c.idx (satAdd · k) }
  | .control c => { b with control := modifyAt b.control c.idx (satAdd · k) }

/-- Increment a counter of the hub by `k`. -/
def State.countBy (s : State) (i : CounterId) (k : Nat) : State := { s with counters := s.counters.add i k }

/-- "Counted" (00_scope, Counters): the named counter is incremented. -/
def State.count (s : State) (i : CounterId) : State := s.countBy i 1

/-! ### Notice flags -/

/-- The bit of a flag in a flag set (09, What the notice unit holds). -/
def Flag.bit : Flag → Nat
  | .portState => 0 | .presence => 1 | .quarantine => 2 | .frameClash => 3 | .upstream => 4 | .timingState => 5
  | .timeStep => 6 | .failover => 7 | .routeAdopted => 8 | .poolLow => 9 | .scheduleOverflow => 10
  | .lateTrigger => 11

/-- The flag set of one flag. -/
def Flag.set (f : Flag) : BitVec 12 := 1#12 <<< f.bit

/-- Raise a flag: it becomes, or stays, pending (R182). -/
def State.raise (s : State) (f : Flag) : State :=
  s.modNotices fun n => { n with flags := n.flags ||| f.set }

/-- The flags that are pending and enabled. -/
def NoticeUnit.visible (n : NoticeUnit) : BitVec 12 := n.flags &&& n.mask

end Sys2Proof.Machine
end

