-- ==== Sys2Proof/Machine/Operands.lean ====
section
/-! DEFINITION. The operand and result words of requests (R19, Operand and result words): every operand form, and the
code of every value a result reports. A decoder answers none for a word that does not decode to a value of its field:
the request is then refused with RANGE (00_scope, Refused and clamped values). -/

namespace Sys2Proof.Machine

/-! ### Operand words -/

/-- A number 0..n−1. -/
def finOf? (n : Nat) (w : Word) : Option (Fin n) := if h : w.toNat < n then some ⟨w.toNat, h⟩ else none

/-- A number in `lo … hi`. -/
def natOf? (lo hi : Nat) (w : Word) : Option Nat := if lo ≤ w.toNat ∧ w.toNat ≤ hi then some w.toNat else none

/-- A yes/no or on/off field: 1 yes, 0 no. -/
def boolOf? (w : Word) : Option Bool := if w = 1#32 then some true else if w = 0#32 then some false else none

/-- A port: 0 to 3 for C0 to C3 and 4 for F. -/
def portOf? (w : Word) : Option Port := Port.ofNat? w.toNat

/-- A cable port: a port that is not F. -/
def cableOf? (w : Word) : Option Cable :=
  match portOf? w with
  | some (.cable c) => some c
  | _ => none

/-- An optional field: all ones is absent. -/
def optOf? {α : Type} (f : Word → Option α) (w : Word) : Option (Option α) :=
  if w = absentWord then some none else (f w).map some

/-- A port set: a 5-bit mask. -/
def portSetOf? (w : Word) : Option (BitVec 5) := if w.toNat < 32 then some (w.setWidth 5) else none

/-- A flag set: a 12-bit mask (R186, R188). -/
def flagSetOf? (w : Word) : Option (BitVec 12) := if w.toNat < 2 ^ 12 then some (w.setWidth 12) else none

/-- A time field of 48 bits in two words: a first word above 16 bits does not decode (R19, R116, R137). -/
def stampOf? (hi lo : Word) : Option Stamp :=
  if hi.toNat < 2 ^ 16 then some (hi.setWidth 16 ++ lo) else none

/-- The rate of a cable port: FULL 0, HALF 1. -/
def rateOf? (w : Word) : Option Rate := if w = 0#32 then some .full else if w = 1#32 then some .half else none

/-- The role: FOLLOW 0, SOURCE 1. -/
def roleOf? (w : Word) : Option Role := if w = 0#32 then some .follow else if w = 1#32 then some .source else none

/-- Class and stamp mode in one choice: URGENT-CARRY, URGENT-STAMP, BULK-CARRY, BULK-STAMP, coded 0 to 3 (R71). -/
def classModeOf? (w : Word) : Option (StreamClass × StampMode) :=
  if w = 0#32 then some (.urgent, .carry)
  else if w = 1#32 then some (.urgent, .stampAtEntry)
  else if w = 2#32 then some (.bulk, .carry)
  else if w = 3#32 then some (.bulk, .stampAtEntry)
  else none

/-- The edge setting of a trigger input: OFF, RISING, FALLING, BOTH, coded 0 to 3 (R149). -/
def edgeOf? (w : Word) : Option EdgeSetting :=
  if w = 0#32 then some .off
  else if w = 1#32 then some .rising
  else if w = 2#32 then some .falling
  else if w = 3#32 then some .both
  else none

/-- The polarity of a pin: ACTIVE-HIGH 0, ACTIVE-LOW 1 (R148). -/
def polarityOf? (w : Word) : Option Polarity :=
  if w = 0#32 then some .activeHigh else if w = 1#32 then some .activeLow else none

/-- The mode of a cadence unit: STOPPED, SINGLE, CONTINUOUS, coded 0 to 2 (R151). -/
def cadenceModeOf? (w : Word) : Option CadenceMode :=
  if w = 0#32 then some .stopped
  else if w = 1#32 then some .single
  else if w = 2#32 then some .continuous
  else none

/-- An origin span, carried as its value (R147). -/
def spanOf? (w : Word) : Option Nat := if w.toNat ∈ [1, 2, 4, 8, 16, 32] then some w.toNat else none

/-- A watermark, carried as its value (R54, R186). -/
def watermarkOf? (w : Word) : Option Nat := if w.toNat ∈ [8, 16, 24, 32] then some w.toNat else none

/-! ### Result words -/

/-- A port as a result. -/
def portWord (p : Port) : Word := natWord p.number

/-- A cable port as a result. -/
def cableWord (c : Cable) : Word := natWord c.number

/-- A frame number as a result. -/
def frameWord (n : Frame) : Word := natWord n.val

/-- The code of a cable-port state: DARK 0 … QUARANTINED 6 (02, What a port unit holds). -/
def stateWord : PortState → Word
  | .dark => 0 | .training => 1 | .greeting => 2 | .active => 3 | .draining => 4 | .parked => 5 | .quarantined => 6

/-- The code of a rate. -/
def rateWord : Rate → Word
  | .full => 0 | .half => 1

/-- The code of a role. -/
def roleWord : Role → Word
  | .follow => 0 | .source => 1

/-- The code of a timing state: FREE 0 … SOURCE 4 (05, What the rack time unit holds). -/
def timingStateWord : TimingState → Word
  | .free => 0 | .acquiring => 1 | .locked => 2 | .holdover => 3 | .source => 4

/-- The code of a class and stamp mode (R71). -/
def classModeWord : StreamClass → StampMode → Word
  | .urgent, .carry => 0 | .urgent, .stampAtEntry => 1 | .bulk, .carry => 2 | .bulk, .stampAtEntry => 3

/-- The code of an edge setting. -/
def edgeWord : EdgeSetting → Word
  | .off => 0 | .rising => 1 | .falling => 2 | .both => 3

/-- The code of a polarity. -/
def polarityWord : Polarity → Word
  | .activeHigh => 0 | .activeLow => 1

/-- The code of a cadence mode. -/
def cadenceModeWord : CadenceMode → Word
  | .stopped => 0 | .single => 1 | .continuous => 2

/-! ### Request kinds (R19, R170) -/

/-- The 29 request kinds of R170. -/
inductive ReqKind where
  | readIdentity | setFrameNumber | hubRestart
  | readPort | setPort | drainPort | restorePort | loopTest
  | writeStream | readStream | clearStream | stageRoute
  | writeFrameRoute | readFrameRoute
  | writeTriggerMap | readTriggerMap | setTriggerPin | setTriggerInput | originateTrigger
  | setCadence | readCadence
  | setTiming | readTiming | setTime
  | setReport | readNotices | clearNotices | readCounters | clearCounters
deriving DecidableEq, Repr

/-- The 29 kinds, in the order of R170. -/
def ReqKind.all : List ReqKind :=
  [.readIdentity, .setFrameNumber, .hubRestart, .readPort, .setPort, .drainPort, .restorePort, .loopTest,
   .writeStream, .readStream, .clearStream, .stageRoute, .writeFrameRoute, .readFrameRoute, .writeTriggerMap,
   .readTriggerMap, .setTriggerPin, .setTriggerInput, .originateTrigger, .setCadence, .readCadence, .setTiming,
   .readTiming, .setTime, .setReport, .readNotices, .clearNotices, .readCounters, .clearCounters]

/-- The code of a request kind (R19, R170). -/
def ReqKind.code : ReqKind → BitVec 8
  | .readIdentity => 0x01#8 | .setFrameNumber => 0x02#8 | .hubRestart => 0x03#8
  | .readPort => 0x10#8 | .setPort => 0x11#8 | .drainPort => 0x12#8 | .restorePort => 0x13#8 | .loopTest => 0x14#8
  | .writeStream => 0x20#8 | .readStream => 0x21#8 | .clearStream => 0x22#8 | .stageRoute => 0x23#8
  | .writeFrameRoute => 0x28#8 | .readFrameRoute => 0x29#8
  | .writeTriggerMap => 0x30#8 | .readTriggerMap => 0x31#8 | .setTriggerPin => 0x32#8 | .setTriggerInput => 0x33#8
  | .originateTrigger => 0x34#8
  | .setCadence => 0x38#8 | .readCadence => 0x39#8
  | .setTiming => 0x40#8 | .readTiming => 0x41#8 | .setTime => 0x42#8
  | .setReport => 0x48#8 | .readNotices => 0x49#8 | .clearNotices => 0x4A#8 | .readCounters => 0x4B#8
  | .clearCounters => 0x4C#8

/-- The operand count of a request kind (R170). -/
def ReqKind.operandCount : ReqKind → Nat
  | .readIdentity => 0 | .setFrameNumber => 1 | .hubRestart => 0
  | .readPort => 2 | .setPort => 4 | .drainPort => 2 | .restorePort => 1 | .loopTest => 1
  | .writeStream => 12 | .readStream => 2 | .clearStream => 1 | .stageRoute => 5
  | .writeFrameRoute => 3 | .readFrameRoute => 1
  | .writeTriggerMap => 6 | .readTriggerMap => 2 | .setTriggerPin => 3 | .setTriggerInput => 5
  | .originateTrigger => 4
  | .setCadence => 6 | .readCadence => 1
  | .setTiming => 8 | .readTiming => 1 | .setTime => 2
  | .setReport => 3 | .readNotices => 0 | .clearNotices => 1 | .readCounters => 2
  | .clearCounters => 2

/-- The request kind a code stands for; none is answered UNKNOWN (R162). -/
def ReqKind.ofCode? (c : BitVec 8) : Option ReqKind := ReqKind.all.find? fun k => k.code = c

/-- The ten outcomes of a reply (R165). -/
inductive Answer where
  | done | busy | range | owner | authority | unknown | unreachable | state | timedOut | cancelled
deriving DecidableEq, Repr

/-- The code of an outcome (R19). -/
def Answer.code : Answer → BitVec 4
  | .done => 0#4 | .busy => 1#4 | .range => 2#4 | .owner => 3#4 | .authority => 4#4 | .unknown => 5#4
  | .unreachable => 6#4 | .state => 7#4 | .timedOut => 8#4 | .cancelled => 9#4

end Sys2Proof.Machine
end

