-- ==== Sys2Proof/Machine/Link.lean ====
section
/-! DEFINITION. Link messages and codes (01): heading pairs, frame codes, the check word, the word layouts of R19, and
what a receiver makes of the data words it collects between two control words (R10 to R13, R15, R16). -/

namespace Sys2Proof.Machine

/-! ### Message kinds, heading pairs, lengths -/

/-- The nine message kinds (R4). -/
inductive Kind where
  | sample | request | reply | notice | trigger | query | answer | hello | echo
deriving DecidableEq, Repr

/-- The kinds, in the order of the table of R4. -/
def Kind.all : List Kind := [.sample, .request, .reply, .notice, .trigger, .query, .answer, .hello, .echo]

/-- The heading pair of a kind (R4): first symbol in bits 7..4, second in bits 3..0. -/
def Kind.heading : Kind → BitVec 8
  | .sample => 0x11#8
  | .request => 0x12#8
  | .reply => 0x14#8
  | .notice => 0x18#8
  | .trigger => 0x21#8
  | .query => 0x41#8
  | .answer => 0x42#8
  | .hello => 0x81#8
  | .echo => 0x82#8

/-- The kind a heading pair is assigned to, if any: none is a heading fault (R4). -/
def Kind.ofHeading? (h : BitVec 8) : Option Kind := Kind.all.find? fun k => k.heading = h

/-- The kind of a message. -/
def kindOf : LinkMsg → Kind
  | .sample _ => .sample
  | .request _ => .request
  | .reply _ => .reply
  | .notice _ => .notice
  | .trigger _ => .trigger
  | .query _ => .query
  | .answer _ => .answer
  | .hello _ => .hello
  | .echo _ => .echo

/-- The length of a message in words, counting the check word (R8). -/
def msgLength : LinkMsg → Nat
  | .sample m => m.samples.length + 4
  | .request m => m.operands.length + 3
  | .reply m => m.results.length + 3
  | .notice _ => 3
  | .trigger _ => 4
  | .query _ => 2
  | .answer _ => 5
  | .hello _ => 2
  | .echo _ => 2

/-- Ticks for which one word occupies a link: one word time is 16 ns at FULL rate and 32 ns at HALF rate (R1), a tick is
8 ns. -/
def ticksPerWord : Rate → Nat
  | .full => 2
  | .half => 4

/-! ### Frame codes -/

/-- The weight-3 code words of R5 in ascending numeric order: words 0 to 31 stand for frames 0 to 31, word 32 for
NEIGHBOUR, words 33 and 34 are spare. -/
def codeWords : List (BitVec 7) :=
  [0b0000111#7, 0b0001011#7, 0b0001101#7, 0b0001110#7, 0b0010011#7, 0b0010101#7, 0b0010110#7, 0b0011001#7,
   0b0011010#7, 0b0011100#7, 0b0100011#7, 0b0100101#7, 0b0100110#7, 0b0101001#7, 0b0101010#7, 0b0101100#7,
   0b0110001#7, 0b0110010#7, 0b0110100#7, 0b0111000#7, 0b1000011#7, 0b1000101#7, 0b1000110#7, 0b1001001#7,
   0b1001010#7, 0b1001100#7, 0b1010001#7, 0b1010010#7, 0b1010100#7, 0b1011000#7, 0b1100001#7, 0b1100010#7,
   0b1100100#7, 0b1101000#7, 0b1110000#7]

/-- The frame code of a frame number (R5). -/
def frameCode (n : Frame) : BitVec 7 := codeWords.getD n.val 0#7

/-- The frame code of a destination (R5). -/
def destCode : Dest → BitVec 7
  | .frame n => frameCode n
  | .neighbour => codeWords.getD 32 0#7

/-- The frame a code word stands for where NEIGHBOUR is not admitted; none is an address-code fault (R6). -/
def frameOfCode? (c : BitVec 7) : Option Frame := (List.finRange 32).find? fun n => frameCode n = c

/-- The destination a code word stands for; none is an address-code fault (R6). -/
def destOfCode? (c : BitVec 7) : Option Dest :=
  if c = destCode .neighbour then some .neighbour else (frameOfCode? c).map .frame

/-! ### Check word -/

/-- The generator x^16 + x^13 + x^12 + x^11 + x^7 + x^6 + x^3 + x + 1, less its first term (R7). -/
def crcPoly : BitVec 16 := 0x38CB#16

/-- One bit fed into the CRC register. -/
def crcBit (r : BitVec 16) (b : Bool) : BitVec 16 :=
  if r.msb != b then (r <<< 1) ^^^ crcPoly else r <<< 1

/-- One word fed into the CRC register, from bit 31 down to bit 0 (R7). -/
def crcWord (r : BitVec 16) (w : Word) : BitVec 16 :=
  (List.range 32).foldl (fun r i => crcBit r (w.getLsbD (31 - i))) r

/-- The CRC over the words of a message before its check word: the register starts at all ones (R7). -/
def crc (ws : List Word) : BitVec 16 := ws.foldl crcWord (BitVec.allOnes 16)

/-- The check word of a message whose preceding words are `ws`: its length, counting the check word, in bits 31..16, the
CRC in bits 15..0 (R7). -/
def checkWord (ws : List Word) : Word := BitVec.ofNat 16 (ws.length + 1) ++ crc ws

/-! ### Word layouts (R19) -/

/-- Word 0 of a CONTROL REQUEST or CONTROL REPLY. -/
def controlWord0 (h : BitVec 8) (d : Dest) (o : Frame) (tag hop : BitVec 4) : Word :=
  h ++ destCode d ++ frameCode o ++ tag ++ hop ++ 0#2

/-- A time in two words: bits 47..32 below `hi`, then bits 31..0. -/
def timeWords (hi : BitVec 16) (t : Stamp) : List Word := [hi ++ t.extractLsb' 32 16, t.extractLsb' 0 32]

/-- The words of a message before its check word, as R19 lays them out. -/
def bodyWords : LinkMsg → List Word
  | .sample m =>
    (Kind.sample.heading ++ BitVec.ofNat 6 m.stream.val ++ m.quality ++ m.seq ++ 0#1 ++ BitVec.ofNat 7 m.samples.length
      : Word) :: (timeWords 0#16 m.stamp ++ m.samples)
  | .request m =>
    controlWord0 Kind.request.heading m.dest m.origin m.tag m.hop ::
      (m.kind ++ 0#20 ++ BitVec.ofNat 4 m.operands.length : Word) :: m.operands
  | .reply m =>
    controlWord0 Kind.reply.heading m.dest m.origin m.tag m.hop ::
      (m.kind ++ m.outcome ++ 0#15 ++ BitVec.ofNat 5 m.results.length : Word) :: m.results
  | .notice m =>
    [controlWord0 Kind.notice.heading m.dest m.origin 0#4 m.hop, 0#20 ++ m.flags]
  | .trigger m =>
    (Kind.trigger.heading ++ frameCode m.origin ++ m.quality ++ BitVec.ofNat 4 m.line.val ++ 0#3 ++ m.seq : Word) ::
      timeWords (0#12 ++ m.hop) m.fire
  | .query n => [Kind.query.heading ++ 0#16 ++ n]
  | .answer m =>
    [Kind.answer.heading ++ 0#6 ++ m.quality ++ 0#4 ++ m.rank ++ m.number,
     m.t2.extractLsb' 32 16 ++ m.t3.extractLsb' 32 16, m.t2.extractLsb' 0 32, m.t3.extractLsb' 0 32]
  | .hello m =>
    [Kind.hello.heading ++ frameCode m.sender ++ BitVec.ofBool m.upstream.isSome ++
      (m.upstream.map frameCode).getD 0#7 ++ m.rank ++ BitVec.ofBool (m.role == .source) ++ BitVec.ofBool m.parking ++ 0#3]
  | .echo m => [Kind.echo.heading ++ 0#15 ++ BitVec.ofBool m.returned ++ m.number]

/-- The run of data words a transmitter sends for a message (R3, R19): its words, then the check word computed over
them. -/
def wordsOf (m : LinkMsg) : List Word := bodyWords m ++ [checkWord (bodyWords m)]

/-! ### Receiving -/

/-- The length of a message as a receiver learns it from the words so far (R8): `none` while the count field has not
arrived, `some none` when the count field is out of its range. -/
def framedLength? (k : Kind) (ws : List Word) : Option (Option Nat) :=
  match k with
  | .sample =>
    let n := ((ws.getD 0 0).extractLsb' 0 7).toNat
    some (if 1 ≤ n ∧ n ≤ 64 then some (n + 4) else none)
  | .request =>
    ws[1]?.map fun w =>
      let n := (w.extractLsb' 0 4).toNat
      if n ≤ 12 then some (n + 3) else none
  | .reply =>
    ws[1]?.map fun w =>
      let n := (w.extractLsb' 0 5).toNat
      if n ≤ 16 then some (n + 3) else none
  | .notice => some (some 3)
  | .trigger => some (some 4)
  | .query => some (some 2)
  | .answer => some (some 5)
  | .hello => some (some 2)
  | .echo => some (some 2)

/-- The fields of a message of kind `k`, read from its words before the check word; none when a frame-code field holds
an address-code fault (R6, R13). -/
def fieldsOf? (k : Kind) (ws : List Word) : Option LinkMsg :=
  let w0 := ws.getD 0 0
  let w1 := ws.getD 1 0
  let w2 := ws.getD 2 0
  let w3 := ws.getD 3 0
  let time : Stamp := w1.extractLsb' 0 16 ++ w2
  match k with
  | .sample =>
    some (.sample ⟨(w0.extractLsb' 18 6).toFin, w0.extractLsb' 16 2, w0.extractLsb' 8 8, time, ws.drop 3⟩)
  | .request => do
    let d ← destOfCode? (w0.extractLsb' 17 7)
    let o ← frameOfCode? (w0.extractLsb' 10 7)
    pure (.request ⟨d, o, w0.extractLsb' 6 4, w0.extractLsb' 2 4, w1.extractLsb' 24 8, ws.drop 2⟩)
  | .reply => do
    let d ← destOfCode? (w0.extractLsb' 17 7)
    let o ← frameOfCode? (w0.extractLsb' 10 7)
    pure (.reply ⟨d, o, w0.extractLsb' 6 4, w0.extractLsb' 2 4, w1.extractLsb' 24 8, w1.extractLsb' 20 4, ws.drop 2⟩)
  | .notice => do
    let d ← destOfCode? (w0.extractLsb' 17 7)
    let o ← frameOfCode? (w0.extractLsb' 10 7)
    pure (.notice ⟨d, o, w0.extractLsb' 2 4, w1.extractLsb' 0 12⟩)
  | .trigger => do
    let o ← frameOfCode? (w0.extractLsb' 17 7)
    pure (.trigger ⟨o, w0.extractLsb' 15 2, (w0.extractLsb' 11 4).toFin, w0.extractLsb' 0 8, w1.extractLsb' 16 4, time⟩)
  | .query => some (.query (w0.extractLsb' 0 8))
  | .answer =>
    some (.answer ⟨w0.extractLsb' 16 2, w0.extractLsb' 8 4, w0.extractLsb' 0 8, w1.extractLsb' 16 16 ++ w2,
      w1.extractLsb' 0 16 ++ w3⟩)
  | .hello => do
    let o ← frameOfCode? (w0.extractLsb' 17 7)
    let up ← if w0.getLsbD 16 then (frameOfCode? (w0.extractLsb' 9 7)).map some else some none
    pure (.hello ⟨o, up, w0.extractLsb' 5 4, if w0.getLsbD 4 then .source else .follow, w0.getLsbD 3⟩)
  | .echo => some (.echo ⟨w0.getLsbD 8, w0.extractLsb' 0 8⟩)

/-- What a receiver makes of a run of data words that a control word ends. -/
inductive Verdict where
  /-- A good message (R10). -/
  | good (m : LinkMsg)
  /-- A heading fault (R11). -/
  | headingFault
  /-- A check failure (R12). -/
  | checkFailure (cause : CheckCause)
  /-- An address-code fault (R13). -/
  | addressFault
  /-- An ABORT ends the message (R15). -/
  | aborted
deriving DecidableEq, Repr

/-- The test of a message that has been collected whole: first the check word (R7, R12), then the frame codes (R13). -/
def testMessage (k : Kind) (ws : List Word) : Verdict :=
  let body := ws.dropLast
  if ws.getLastD 0 = checkWord body then
    match fieldsOf? k body with
    | some m => .good m
    | none => .addressFault
  else .checkFailure .checkWord

/-- What the receiver makes of the data words `ws` that arrive after a control word and are ended by another, which is
ABORT or not. The heading is tested before anything else (R11), then the length (R8), then what R13 says. Words beyond
the message's length are the framing error of R10, which `overran` tells. -/
def receiveWords (ws : List Word) (endedByAbort : Bool) : Verdict :=
  match Kind.ofHeading? ((ws.getD 0 0).extractLsb' 24 8) with
  | none => .headingFault
  | some k =>
    match framedLength? k ws with
    | some none => .checkFailure .countField
    | some (some n) =>
      if n ≤ ws.length then testMessage k (ws.take n)
      else if endedByAbort then .aborted else .checkFailure .cutShort
    | none => if endedByAbort then .aborted else .checkFailure .cutShort

/-- A data word directly follows the check word of a message collected whole (R10). -/
def overran (ws : List Word) : Bool :=
  match Kind.ofHeading? ((ws.getD 0 0).extractLsb' 24 8) with
  | none => false
  | some k =>
    match framedLength? k ws with
    | some (some n) => decide (n < ws.length)
    | _ => false

/-- The command that hands a good message on from port `p`, with the tick of its receive stamp (R16, R17). -/
def takingOf (p : Port) (stamp : Ago) : LinkMsg → Instr
  | .sample m => .sampleBlock p stamp m
  | .request m => .controlRequest p ⟨stamp, m⟩
  | .reply m => .controlReply p ⟨stamp, m⟩
  | .notice m => .notice p ⟨stamp, m⟩
  | .trigger m => .triggerNotice p ⟨stamp, m⟩
  | .query n => .delayQuery p stamp n
  | .answer m => .timeAnswer p stamp m
  | .hello m => .hello p ⟨stamp, m⟩
  | .echo m => .echo p stamp m

/-- The command a verdict stands for (R10 to R13, R15, R16). -/
def commandOf (p : Port) (stamp : Ago) : Verdict → Instr
  | .good m => takingOf p stamp m
  | .headingFault => .headingFault p
  | .checkFailure cause => .checkFailure p cause
  | .addressFault => .addressCodeFault p
  | .aborted => .abortedMessage p

/-- The verdict hands a message on. -/
def Verdict.isGood : Verdict → Bool
  | .good _ => true
  | .headingFault | .checkFailure _ | .addressFault | .aborted => false

/-- The commands that a non-empty run of data words on port `p`, received after a control word and ended by another,
calls for, in order: the message's verdict; a framing error if words overran a good message; and the control word that
lets the next message start. A message that has one receive fault has no second, so its overrun counts only after a good
verdict (R14). That a good message is handed on at its check word and the overrun counted after it is the model's choice
(R10, R16 against R12; log entry 28). An ABORT that ends a message lets no message start: the control word after it does
(R15, log entry 12). -/
def commandsOf (p : Port) (stamp : Ago) (ws : List Word) (endedByAbort : Bool) : List Instr :=
  let v := receiveWords ws endedByAbort
  commandOf p stamp v ::
    ((if overran ws && v.isGood then [.checkFailure p .overrun] else []) ++ (if v = .aborted then [] else [.huntEnds p]))

end Sys2Proof.Machine
end

