-- ==== Sys2Proof/Machine/Pool.lean ====
section
/-! DEFINITION. The block buffer pool (R49 to R54): taking, naming, releasing and returning a slot. -/

namespace Sys2Proof.Machine

/-- The free count: the number of free slots (R49). -/
def Pool.freeCount (p : Pool) : Nat := p.free.length

/-- The held count of a stream number (R53). -/
def State.held (s : State) (n : StreamNo) : Nat := s.pool.held[n]

/-- A slot becomes free and joins the tail of the free list; the held count of its stream number falls by one (R52). -/
def Pool.putBack (p : Pool) (i : Fin 96) (n : StreamNo) : Pool :=
  { p with slots := p.slots.set i none, free := p.free ++ [i], held := modifyAt p.held n (· - 1) }

/-- One reference to a slot is released; at 0 the slot becomes free (R52). A free slot has no reference to release. -/
def Pool.release (p : Pool) (i : Fin 96) : Pool :=
  match p.slots[i] with
  | none => p
  | some h =>
    if h.refs ≤ 1 then p.putBack i h.stream
    else { p with slots := p.slots.set i (some { h with refs := h.refs - 1 }) }

/-- One reference to a slot of the hub is released (R52). -/
def State.release (s : State) (i : Fin 96) : State := s.modPool (·.release i)

/-- The head of the free list is taken for a block (R50); none when the free list is empty. -/
def Pool.take (p : Pool) (h : Holding) : Option (Fin 96 × Pool) :=
  match p.free with
  | [] => none
  | i :: rest =>
    some (i, { p with slots := p.slots.set i (some h), free := rest, held := modifyAt p.held h.stream (· + 1) })

/-- A take moves the free count from at or above the watermark to below it (R54). -/
def Pool.takeCrosses (p : Pool) : Bool := p.watermark ≤ p.freeCount && p.freeCount - 1 < p.watermark

/-- A slot of the hub is taken for a block; POOL-LOW is raised when the take crosses the watermark (R50, R54). -/
def State.takeSlot (s : State) (h : Holding) : Option (Fin 96 × State) :=
  match s.pool.take h with
  | none => none
  | some (i, p) =>
    let s' := s.modPool fun _ => p
    some (i, if s.pool.takeCrosses then s'.raise .poolLow else s')

/-- The reference count of a slot is set to the number of entries made; with no entry, the slot returns at once to the
tail of the free list (R51). -/
def Pool.settle (p : Pool) (i : Fin 96) (entries : Nat) : Pool :=
  match p.slots[i] with
  | none => p
  | some h =>
    if entries = 0 then p.putBack i h.stream
    else { p with slots := p.slots.set i (some { h with refs := entries }) }

end Sys2Proof.Machine
end

