-- ==== Sys2Proof/Machine/Transmit.lean ====
section
/-! DEFINITION. What a port sends: the fields a HELLO and a TIME ANSWER carry (R120, R121, R18), the five output queues
(R55 to R57), the transmit arbiter (R58 to R60), cuts and flushes (R62, R63). -/

namespace Sys2Proof.Machine

/-! ### What the hub says of itself -/

/-- RT_ns as it stands. -/
def State.ns (s : State) : Stamp := s.time.ns

/-- The receive stamp of a message whose first word passed the receive stamp point `ago` ticks before this one (R17): RT_ns of
that tick, as it stood when the tick began (R109, R112). A tick that no message reaches back to, and one before pin reset, takes
the oldest value on record (log entry 10). -/
def State.rxStamp (s : State) (ago : Ago) : Stamp := ((s.stampNs :: s.stamps)[ago]?).getD (s.stamps.getLastD s.stampNs)

/-- The hub's own quality, by its timing state (R95). -/
def TimingState.quality : TimingState → Quality
  | .source | .locked => .traceable
  | .holdover => .holdover
  | .free | .acquiring => .untraced

/-- The hub's own quality as it stands. -/
def State.quality (s : State) : Quality := s.time.state.quality

/-- The upstream port's neighbour entry, if there is an upstream port and it has one. R120 and R121 read it, and say nothing
for an upstream port without an entry. That moment comes about within SET FRAME NUMBER, between the quarantine of the upstream
port (R197 step 3) and the evaluation (step 5): `State.rank` and `State.upstreamFrame` then answer by the model's choice (log
entry 33). -/
def State.upstreamEntry (s : State) : Option Neighbour :=
  s.selector.upstream.bind fun c => (s.cable c).neighbour

/-- One more than a rank, at most 15. -/
def rankAfter (r : BitVec 4) : BitVec 4 := if r = 15#4 then 15#4 else r + 1#4

/-- The advertised rank (R120). An upstream port without an entry gives rank 15, also in ACQUIRING and LOCKED: the model's
choice where R120 gives none, between steps 3 and 5 of R197 (log entry 33). -/
def State.rank (s : State) : BitVec 4 :=
  match s.time.state with
  | .source => 0#4
  | .acquiring | .locked => (s.upstreamEntry.map fun n => rankAfter n.rank).getD 15#4
  | .free | .holdover => 15#4

/-- The upstream frame a HELLO carries (R121). An upstream port without an entry gives none: the model's choice where R121 gives
no frame, between steps 3 and 5 of R197 (log entry 33). -/
def State.upstreamFrame (s : State) : Option Frame := s.upstreamEntry.map (·.frame)

/-- The HELLO a cable port sends now (R121). -/
def State.helloMsg (s : State) (parking : Bool) : HelloMsg where
  sender := s.frame
  upstream := s.upstreamFrame
  rank := s.rank
  role := s.time.role
  parking := parking

/-! ### Port states as the other blocks read them -/

/-- The port is ACTIVE (R20, R45). -/
def State.isActive (s : State) : Port → Bool
  | .cable c => (s.cable c).state == .active
  | .f => s.fActive

/-- The port is in service: a cable port in ACTIVE or DRAINING (R20), F in ACTIVE. -/
def State.inService (s : State) : Port → Bool
  | .cable c => (s.cable c).state == .active || (s.cable c).state == .draining
  | .f => s.fActive

/-- The drain of a port has closed: its arbiter starts nothing more before the port is PARKED (R38, R58). -/
def State.drainClosed (s : State) (c : Cable) : Bool :=
  match (s.cable c).drain with
  | some d => d.closed
  | none => false

/-- The port's arbiter makes choices (R58): in a state that sends words, and not after its drain has closed. -/
def State.arbiterRuns (s : State) : Port → Bool
  | .cable c =>
    match (s.cable c).state with
    | .training | .greeting | .active => true
    | .draining => !s.drainClosed c
    | .dark | .parked | .quarantined => false
  | .f => s.fActive

/-- The rate of a port: its setting on a cable port, FULL on F (R2). -/
def State.rateOf (s : State) : Port → Rate
  | .cable c => (s.cable c).rate
  | .f => .full

/-! ### The transmit arbiter -/

/-- What an arbiter may choose (R58). -/
inductive Choice where
  | returned (number : BitVec 8)
  | ownEcho (number : BitVec 8)
  | hello
  | timing (e : TimingEntry)
  | trigger (m : TriggerMsg)
  | control (e : ControlEntry)
  | urgent (i : Fin 96)
  | bulk (i : Fin 96)
deriving DecidableEq, Repr

/-- The link maintenance waiting on a cable port: a return, then its own ECHO, then a called-for HELLO (R25). -/
def CableUnit.maintenance (u : CableUnit) : Option Choice :=
  match u.returnDue, u.echoDue, u.helloDue with
  | some n, _, _ => some (.returned n)
  | none, some n, _ => some (.ownEcho n)
  | none, none, true => some .hello
  | none, none, false => none

/-- The choice between the two sample queues (R58 steps 5 and 6, R59). -/
def sampleChoice (q : Queues) (pass : Nat) : Option Choice :=
  match q.urgent, q.bulk with
  | u :: _, b :: _ => some (if Config.bulkPassMax ≤ pass then .bulk b else .urgent u)
  | u :: _, [] => some (.urgent u)
  | [], b :: _ => some (.bulk b)
  | [], [] => none

/-- The choice among the queue heads (R58 steps 2 to 6). -/
def queueChoice (q : Queues) (pass : Nat) : Option Choice :=
  match q.timing, q.trigger, q.control with
  | e :: _, _, _ => some (.timing e)
  | [], m :: _, _ => some (.trigger m)
  | [], [], e :: _ => some (.control e)
  | [], [], [] => sampleChoice q pass

/-- The choice a port's arbiter makes now (R58); none when nothing waits. -/
def State.choice (s : State) (p : Port) : Option Choice :=
  let waiting := queueChoice (s.port p).queues (s.port p).bulkPass
  match p with
  | .cable c => (s.cable c).maintenance.or waiting
  | .f => waiting

/-! ### Words on the link -/

/-- The earliest tick at which a port whose words take `w` ticks can send a first word: after the IDLE owed, and one control
word after an ABORT owed (R3, R15; log entry 31). -/
def PortUnit.clearAt (u : PortUnit) (now w : Nat) : Nat :=
  match u.owed.getLast? with
  | none => now
  | some ⟨.idle, _, e⟩ | some ⟨.word _, _, e⟩ => max now e
  | some ⟨.abort, _, e⟩ => max now (e + w)

/-- The words owed that have not left by tick `now`. -/
def stillOwed (now : Nat) (l : List Owed) : List Owed := l.filter fun x => decide (now < x.ends)

/-- One IDLE of `w` ticks is owed, after what is owed already (R3, R45). -/
def PortUnit.owe (u : PortUnit) (now w : Nat) : PortUnit :=
  let l := stillOwed now u.owed
  let start := (l.getLast?.map (·.ends)).getD now
  { u with owed := l ++ [⟨.idle, start, start + w⟩] }

/-- Ticks that one word of a transmission takes. -/
def Tx.wordTicks (t : Tx) : Nat := (t.endsAt - t.startsAt) / msgLength t.msg

/-- The tick at which the next word of a transmission begins. -/
def Tx.nextWord (t : Tx) (now : Nat) : Nat :=
  if now < t.startsAt then t.startsAt else t.startsAt + ((now - t.startsAt) / t.wordTicks + 1) * t.wordTicks

/-- The one ABORT that is sent in place of a transmission's next word (R3). -/
def Tx.abort (t : Tx) (now : Nat) : Owed := ⟨.abort, t.nextWord now, t.nextWord now + t.wordTicks⟩

/-- The check word of a transmission has left by tick `now`: it has ended and cannot be cut (R3). -/
def Tx.sent (t : Tx) (now : Nat) : Bool := decide (t.endsAt ≤ now)

/-- What a port owes once its transmission has left it by a cut: of one whose check word has left, the IDLE that follows; of
any other, what is leaving at the cut, the message's word or what was owed before its first word, and then ABORT (R3). -/
def Tx.afterCut (t : Tx) (owed : List Owed) (now : Nat) : List Owed :=
  if t.sent now then [⟨.idle, t.endsAt, t.endsAt + t.wordTicks⟩]
  else (if now < t.startsAt then stillOwed now owed else [⟨.word t.msg, now, t.nextWord now⟩]) ++ [t.abort now]

/-- The transmission in progress, if any, leaves the port, and what it still sends is owed (R3). -/
def PortUnit.cutTx (u : PortUnit) (now : Nat) : PortUnit :=
  match u.tx with
  | some t => { u with tx := none, owed := t.afterCut u.owed now }
  | none => u

/-- A message as its first word passes the transmit stamp point with stamp `x`: a TIME ANSWER takes its t3 (R18). -/
def stampedMsg (m : LinkMsg) (x : Stamp) : LinkMsg :=
  match m with
  | .answer a => .answer { a with t3 := x }
  | .sample _ | .request _ | .reply _ | .notice _ | .trigger _ | .query _ | .hello _ | .echo _ => m

/-- The transmit stamp of a DELAY QUERY is reported to the rack time unit, matched by number and port (R101). -/
def RackTime.reportSent (t : RackTime) (p : Port) (number : BitVec 8) (stamp : Stamp) : RackTime :=
  match t.outstanding with
  | some o =>
    if o.number = number ∧ p = .cable o.port then { t with outstanding := some { o with t1 := some stamp } } else t
  | none => t

/-- A queued DELAY QUERY is reported as not sent, matched by number and port: the exchange is abandoned (R101, R105). -/
def RackTime.reportNotSent (t : RackTime) (p : Port) (number : BitVec 8) : RackTime :=
  match t.outstanding with
  | some o => if o.number = number ∧ p = .cable o.port then { t with outstanding := none } else t
  | none => t

/-- The transmit stamp of a loop test's ECHO is recorded, and its 100 µs begin (R43). -/
def LoopTest.stamped (l : LoopTest) (number : BitVec 8) (stamp : Stamp) (now : Nat) : LoopTest :=
  if l.number = number ∧ l.sent = none then
    { l with sent := some stamp, timeout := some (now + Config.ticks100us) }
  else l

/-- A transmit stamp is reported to the block that sent the message: of a DELAY QUERY to the rack time unit, of an ECHO of its
own to the port unit (R17). -/
def State.reportStamp (s : State) (p : Port) (m : LinkMsg) (x : Stamp) : State :=
  match m, p with
  | .query n, _ => s.modTime (·.reportSent p n x)
  | .echo ⟨false, n⟩, .cable c => s.modCable c fun u => { u with loop := u.loop.map (·.stamped n x s.now) }
  | _, _ => s

/-- The first word of the transmission on `p` passes the transmit stamp point and takes the stamp of this tick, RT_ns from before
a step made in it (R17, R18, R109, R112). -/
def State.firstWord (s : State) (p : Port) : State :=
  match (s.port p).tx with
  | some t =>
    if t.stamp = none then
      (s.modPort p fun u =>
        { u with tx := some { t with msg := stampedMsg t.msg s.stampNs, stamp := some s.stampNs }, owed := [] }).reportStamp p
          t.msg s.stampNs
    else s
  | none => s

/-- The first word of the transmission on `p` is due, and passes. -/
def State.firstWordDue (s : State) (p : Port) : State :=
  match (s.port p).tx with
  | some t => if t.startsAt ≤ s.now then s.firstWord p else s
  | none => s

/-- On every port, a first word that is due passes. -/
def State.firstWords (s : State) : State := Port.all.foldl State.firstWordDue s

/-- A transmission starts on `p` (R60): its first word leaves as soon as the words owed have left, at once when none
is (R3), and its last word when its words have occupied the link (R8). -/
def State.transmit (s : State) (p : Port) (m : LinkMsg) (src : TxSource) : State :=
  let w := ticksPerWord (s.rateOf p)
  let start := (s.port p).clearAt s.now w
  (s.modPort p fun u => { u with tx := some ⟨m, src, start, start + msgLength m * w, none⟩ }).firstWordDue p

/-- The transmission on `p` ends: its last word has left, and the IDLE that must follow is owed (R3, R8). -/
def State.endTx (s : State) (p : Port) : State :=
  (s.firstWord p).modPort p fun u =>
    { u with tx := none, owed := [⟨.idle, s.now, s.now + ticksPerWord (s.rateOf p)⟩] }

/-- The SAMPLE BLOCK a holding slot is sent as (R60). -/
def Holding.message (h : Holding) : SampleMsg := ⟨h.stream, h.quality.code, h.seq, h.stamp, h.samples⟩

/-- The transmission of the block in a slot starts (R60); the slot's reference moves from the entry to the transmission. -/
def State.transmitSlot (s : State) (p : Port) (i : Fin 96) : State :=
  match s.pool.slots[i] with
  | some h => s.transmit p (.sample h.message) (.sample i)
  | none => s

/-- The chosen message leaves where it waited and its transmission starts, built from the values that stand (R58, R59, R60,
R18). The t3 of a TIME ANSWER is written when its first word passes the stamp point. -/
def State.begin (s : State) (p : Port) : Choice → State
  | .returned n =>
    match p with
    | .cable c => (s.modCable c fun u => { u with returnDue := none }).transmit p (.echo ⟨true, n⟩) .maintenance
    | .f => s
  | .ownEcho n =>
    match p with
    | .cable c =>
      (s.modCable c fun u => { u with echoDue := none }).transmit p (.echo ⟨false, n⟩) .maintenance
    | .f => s
  | .hello =>
    match p with
    | .cable c =>
      (s.modCable c fun u =>
        { u with helloDue := false, refreshAt := some (s.now + Config.ticks1s) }).transmit p
          (.hello (s.helloMsg false)) .maintenance
    | .f => s
  | .timing (.query n) =>
    (s.modQueues p fun q => { q with timing := q.timing.tail }).transmit p (.query n) .timing
  | .timing (.answer n t2) =>
    (s.modQueues p fun q => { q with timing := q.timing.tail }).transmit p
      (.answer ⟨s.quality.code, s.rank, n, t2, 0#48⟩) .timing
  | .trigger m => (s.modQueues p fun q => { q with trigger := q.trigger.tail }).transmit p (.trigger m) .trigger
  | .control e =>
    (s.modQueues p fun q => { q with control := q.control.tail }).transmit p
      (match e.msg with | .request m => .request m | .reply m => .reply m | .notice m => .notice m)
      (.control e.restart)
  | .urgent i =>
    (s.modPort p fun u =>
      { u with
        queues := { u.queues with urgent := u.queues.urgent.tail }
        bulkPass := if u.queues.bulk.isEmpty then u.bulkPass else u.bulkPass + 1 }).transmitSlot p i
  | .bulk i =>
    (s.modPort p fun u =>
      { u with queues := { u.queues with bulk := u.queues.bulk.tail }, bulkPass := 0 }).transmitSlot p i

/-- The arbiter of `p` makes a choice, when it makes choices and no transmission is in progress (R58). -/
def State.arbitrate (s : State) (p : Port) : State :=
  if s.arbiterRuns p ∧ (s.port p).tx = none then
    match s.choice p with
    | some ch => s.begin p ch
    | none => s
  else s

/-! ### Offering entries to queues (R56, R57) -/

/-- A message is offered to the timing queue of `p`: whether it was queued, and the state after. -/
def State.offerTiming (s : State) (p : Port) (e : TimingEntry) : Bool × State :=
  if s.inService p then
    if (s.port p).queues.timing.length < Config.timingCap then
      (true, (s.modQueues p fun q => { q with timing := q.timing ++ [e] }).arbitrate p)
    else (false, s.count (.traffic p .timingDrops))
  else (false, s)

/-- A TRIGGER NOTICE is offered to the trigger queue of `p`: whether it was queued, and the state after. -/
def State.offerTrigger (s : State) (p : Port) (m : TriggerMsg) : Bool × State :=
  if s.isActive p then
    if (s.port p).queues.trigger.length < Config.triggerCap then
      (true, (s.modQueues p fun q => { q with trigger := q.trigger ++ [m] }).arbitrate p)
    else (false, s.count (.traffic p .triggerDrops))
  else (false, s)

/-- A control message is offered to the control queue of `p`: whether it was queued, and the state after. A full control
queue is not counted at the port (R57). -/
def State.offerControl (s : State) (p : Port) (e : ControlEntry) : Bool × State :=
  if s.inService p ∧ (s.port p).queues.control.length < Config.controlCap then
    (true, (s.modQueues p fun q => { q with control := q.control ++ [e] }).arbitrate p)
  else (false, s)

/-- A block is offered to a sample queue of `p`, by its class: whether an entry was made, and the state after. No
transmitter starts it before the slot's reference count is set (R51), so the arbiter is not asked here. -/
def State.offerSample (s : State) (p : Port) (cls : StreamClass) (i : Fin 96) : Bool × State :=
  if s.isActive p then
    let q := (s.port p).queues
    if q.urgent.length + q.bulk.length < Config.sampleCap then
      (true, s.modQueues p fun q =>
        match cls with
        | .urgent => { q with urgent := q.urgent ++ [i] }
        | .bulk => { q with bulk := q.bulk ++ [i] })
    else (false, s.count (.traffic p .queueFull))
  else (false, s)

/-! ### Cuts and flushes -/

/-- A transmission in progress carries a queued message (R62). -/
def TxSource.queued : TxSource → Bool
  | .maintenance | .parking => false
  | .timing | .trigger | .control _ | .sample _ => true

/-- A transmission in progress carries a sample block or a trigger notice (R35, R38, R39). -/
def TxSource.sampleOrTrigger : TxSource → Bool
  | .trigger | .sample _ => true
  | .maintenance | .parking | .timing | .control _ => false

/-- The reference a transmission holds is released, when it holds one (R52, R61, R62). -/
def State.releaseTx (s : State) : TxSource → State
  | .sample i => s.release i
  | .maintenance | .parking | .timing | .trigger | .control _ => s

/-- The transmission in progress on `p`, if any, is cut: ABORT in place of its next word (R3); a cut queued message is
counted, a cut sample block releases its reference (R62). One whose check word has left ends instead, in the event that would
have cut it: it releases its reference (R61) and is not counted (R3; log entry 31). -/
def State.cut (s : State) (p : Port) : State :=
  match (s.port p).tx with
  | none => s
  | some t =>
    let s' := (s.modPort p (·.cutTx s.now)).releaseTx t.source
    if t.source.queued && !t.sent s.now then s'.count (.traffic p .cut) else s'

/-- The transmission in progress on `p`, if any, ends with the words the port no longer sends (R1, R40). -/
def State.silence (s : State) (p : Port) : State := s.modPort p fun u => { u with tx := none }

/-- Release the references of a list of sample entries, oldest first. -/
def State.releaseAll (s : State) (l : List (Fin 96)) : State := l.foldl State.release s

/-- The sample and trigger entries of a port. -/
def Queues.sampleAndTrigger (q : Queues) : Nat := q.trigger.length + q.urgent.length + q.bulk.length

/-- All entries of a port. -/
def Queues.total (q : Queues) : Nat :=
  q.timing.length + q.trigger.length + q.control.length + q.urgent.length + q.bulk.length

/-- The numbers of the DELAY QUERIES among the timing entries. -/
def queryNumbers (l : List TimingEntry) : List (BitVec 8) :=
  l.filterMap fun e =>
    match e with
    | .query n => some n
    | .answer _ _ => none

/-- A flush of `p` (R63): the transmission in progress is cut, then all five queues are emptied, each sample entry
released, each entry counted, each DELAY QUERY reported as not sent. -/
def State.flush (s : State) (p : Port) : State :=
  let s := s.cut p
  let q := (s.port p).queues
  let s := s.modPort p fun u => { u with queues := Queues.empty, bulkPass := 0 }
  let s := s.releaseAll (q.urgent ++ q.bulk)
  let s := s.countBy (.traffic p .flushed) q.total
  s.modTime fun t => (queryNumbers q.timing).foldl (fun t n => t.reportNotSent p n) t

end Sys2Proof.Machine
end

