-- ==== Sys2Proof/Machine/Triggers.lean ====
section
/-! DEFINITION. The trigger unit's operations (07): opening gates (R90), firing (R144, R145), the schedule (R142, R143,
R146), taking a trigger notice (R138 to R143) and originating one (R136); and the cadence units' (R151, R152, R154). -/

namespace Sys2Proof.Machine

/-! ### Gates and firing -/

/-- A gate opening for line `l` acts on one stream (R90). -/
def StreamUnit.openGate (l : Line) (u : StreamUnit) : StreamUnit :=
  if u.entry.valid = true ∧ u.entry.gateLine = some l then
    { u with
      run := { u.run with
        gateOpen := true
        remaining := if u.entry.gateCount = 0 then none else some u.entry.gateCount } }
  else u

/-- The gates of every valid stream whose gate line is `l` are opened (R90, R145). -/
def State.openGates (s : State) (l : Line) : State :=
  { s with streams := mapAll (StreamUnit.openGate l) s.streams }

/-- A pin entry drives its pin active for its width in ticks; on an active pin the count restarts and the firing is
counted as merged (R144). -/
def State.firePin (s : State) (i : Fin 4) : State :=
  let pin := s.trig.pins[i]
  let s' := s.modTrig fun t =>
    { t with pins := t.pins.set i { pin with activeUntil := some (s.now + pin.width / 8) } }
  if pin.activeUntil.isSome then s'.count (.trigger .mergedFirings) else s'

/-- An entry fires, on time or late: it is counted and acts on its target (R144, R145). -/
def State.fire (s : State) (late : Bool) (e : SchedEntry) : State :=
  let s := s.count (.trigger .firings)
  let s := if late then (s.count (.trigger .lateFirings)).raise .lateTrigger else s
  match e.target with
  | .pin i => s.firePin i
  | .gates => s.openGates e.line

/-! ### The schedule -/

/-- An entry is inserted after every entry whose fire time is earlier than or equal to its own, before the first whose
fire time is later (R142). -/
def insertEntry (e : SchedEntry) : List SchedEntry → List SchedEntry
  | [] => [e]
  | x :: xs => if 0 < stampDiff x.fire e.fire then e :: x :: xs else x :: insertEntry e xs

/-- An entry of a notice is scheduled (R143): dropped when the schedule is full, else counted and inserted; an entry
marked late fires as soon as it is inserted, so it is fired in its place. -/
def State.schedule (s : State) (e : SchedEntry) : State :=
  if s.trig.schedule.length < Config.scheduleCap then
    let s := s.count (.trigger .entriesScheduled)
    if e.late then s.fire true e
    else s.modTrig fun t => { t with schedule := insertEntry e t.schedule }
  else (s.count (.trigger .overflows)).raise .scheduleOverflow

/-- RT_ns has reached an entry's fire time (R144). -/
def SchedEntry.due (ns : Stamp) (e : SchedEntry) : Bool := decide (0 ≤ stampDiff ns e.fire)

/-- A forward step to RT_ns = `ns` has passed an entry (R146). -/
def SchedEntry.passed (ns : Stamp) (e : SchedEntry) : Bool := decide (stampDiff e.fire ns ≤ 0)

/-- Every entry that is due fires, in schedule order (R144). -/
def State.fireDue (s : State) : State :=
  let due := s.trig.schedule.filter (SchedEntry.due s.ns)
  let s' := s.modTrig fun t => { t with schedule := t.schedule.filter fun e => !e.due s.ns }
  due.foldl (fun s e => s.fire e.late e) s'

/-- Every entry that a forward step has passed fires at once, in schedule order, as a late firing (R146). -/
def State.firePassed (s : State) : State :=
  let passed := s.trig.schedule.filter (SchedEntry.passed s.ns)
  let s' := s.modTrig fun t => { t with schedule := t.schedule.filter fun e => !e.passed s.ns }
  passed.foldl (fun s e => s.fire true e) s'

/-! ### The trigger map -/

/-- The origin base less its remainder modulo the span (R141). -/
def MapEntry.alignedBase (e : MapEntry) : Nat := e.base - e.base % e.span

/-- A map entry matches a notice (R141). -/
def MapEntry.matchesNotice (e : MapEntry) (line : Line) (origin : Frame) : Bool :=
  e.valid && decide (e.line = line) && decide (e.alignedBase ≤ origin.val ∧ origin.val < e.alignedBase + e.span)

/-- The targets of the entries a notice makes, in order: one pin for each valid map entry that matches and names a pin, in
map index order, then the gates when a valid stream has the line as its gate line (R143). -/
def State.targets (s : State) (line : Line) (origin : Frame) : List Target :=
  (s.trig.map.toList.filterMap fun e => if e.matchesNotice line origin then e.pin.map Target.pin else none) ++
    (if s.streams.toList.any fun u => u.entry.valid && decide (u.entry.gateLine = some line) then [.gates] else [])

/-! ### Taking a notice -/

/-- The fire time lies outside −2^31 … +2^31 of RT_ns (R137, R138). -/
def malformedFire (fire ns : Stamp) : Bool :=
  let d := stampDiff fire ns
  decide (d < -2 ^ 31 ∨ 2 ^ 31 < d)

/-- A pair joins the recent-trigger list at the tail; the oldest leaves a full list (R139). -/
def remember (l : List (Frame × BitVec 8)) (x : Frame × BitVec 8) : List (Frame × BitVec 8) :=
  (if l.length < Config.recentCap then l else l.tail) ++ [x]

/-- A copy of a notice is offered to the trigger queue of one port (R140). -/
def State.forwardCopy (m : TriggerMsg) (arrival : Option Port) (s : State) (p : Port) : State :=
  if s.isActive p ∧ arrival ≠ some p then
    match s.offerTrigger p { m with hop := m.hop - 1 } with
    | (true, s') => s'.count (.trigger .copiesForwarded)
    | (false, s') => s'
  else s

/-- The copies of a notice, in port number order, when its hop count is above 0 (R140). -/
def State.forwardCopies (s : State) (m : TriggerMsg) (arrival : Option Port) : State :=
  if m.hop = 0#4 then s else Port.all.foldl (State.forwardCopy m arrival) s

/-- The schedule entries of a notice, each with the notice's fire time, line, origin and quality (R143). -/
def State.scheduleNotice (s : State) (m : TriggerMsg) : State :=
  let late := decide (stampDiff m.fire s.ns ≤ 0)
  (s.targets m.line m.origin).foldl
    (fun s t => s.schedule ⟨m.fire, t, m.line, m.origin, Quality.ofCode m.quality, late⟩) s

/-- A trigger notice is taken by an assigned hub, from a port or from origination (R138 to R143): whether it passed the
malformed and duplicate tests, and the state after. -/
def State.takeNotice (s : State) (m : TriggerMsg) (arrival : Option Port) : Bool × State :=
  let m := { m with quality := (Quality.ofCode m.quality).code }
  if malformedFire m.fire s.ns then (false, s.count (.trigger .malformed))
  else if (m.origin, m.seq) ∈ s.trig.recent then (false, s.count (.trigger .duplicates))
  else
    let s := s.modTrig fun t => { t with recent := remember t.recent (m.origin, m.seq) }
    let s := s.count (.trigger .noticesTaken)
    let s := s.forwardCopies m arrival
    (true, s.scheduleNotice m)

/-- The notice an origination builds (R136). -/
def State.originated (s : State) (line : Line) (fire : Stamp) : TriggerMsg where
  origin := s.frame
  quality := s.quality.code
  line := line
  seq := s.trig.originCounter
  hop := 15#4
  fire := fire

/-- A notice is originated and taken (R136): whether it passed the duplicate test, and the state after. -/
def State.originate (s : State) (line : Line) (fire : Stamp) : Bool × State :=
  let m := s.originated line fire
  let s := s.modTrig fun t => { t with originCounter := t.originCounter + 1#8 }
  (s.count (.trigger .noticesOriginated)).takeNotice m none

/-! ### Cadence units -/

/-- The next edge after a time t (R151): φ when t < φ, else the next grid point, or φ when that lies beyond the wrap. -/
def CadenceSettings.nextAfter (c : CadenceSettings) (t : Nat) : Nat :=
  if t < c.phase then c.phase
  else
    let g := c.phase + ((t - c.phase) / c.period + 1) * c.period
    if 2 ^ 48 ≤ g then c.phase else g

/-- The next edge after a rack time, as a rack time. -/
def CadenceSettings.nextEdge (c : CadenceSettings) (t : Stamp) : Stamp := BitVec.ofNat 48 (c.nextAfter t.toNat)

/-- The edge at grid time `g` is suppressed: locked-only is on and the timing state is neither SOURCE nor LOCKED (R152). -/
def CadenceSettings.suppresses (c : CadenceSettings) (t : TimingState) : Bool :=
  c.lockedOnly && !(t == .source || t == .locked)

/-- A unit takes the edge at `g` (R152), at tick `now`, in timing state `t`: the unit after, and the counter it counts. -/
def CadenceUnit.takeEdge (u : CadenceUnit) (k : Fin 2) (g : Stamp) (now : Nat) (t : TimingState) :
    CadenceUnit × Option TriggerCounter :=
  let c := u.pending.getD u.settings
  let u := { u with settings := c, pending := none }
  if c.mode = .stopped then ({ u with next := none }, none)
  else if c.suppresses t then ({ u with next := some (c.nextEdge g) }, some (.suppressed k))
  else
    let u := { u with highUntil := some (now + ceilDiv c.width 8) }
    if c.mode = .single then
      ({ u with settings := { c with mode := .stopped }, next := none }, some (.pulses k))
    else ({ u with next := some (c.nextEdge g) }, some (.pulses k))

/-- A unit whose next edge RT_ns has reached (R152). -/
def CadenceUnit.edgeDue (u : CadenceUnit) (ns : Stamp) : Option Stamp :=
  u.next.bind fun g => if 0 ≤ stampDiff ns g then some g else none

/-- A step of rack time at a cadence unit: its next edge, if it has one, becomes the next edge after the new RT_ns (R154). -/
def CadenceUnit.afterStep (ns : Stamp) (u : CadenceUnit) : CadenceUnit :=
  { u with next := u.next.map fun _ => u.settings.nextEdge ns }

/-- A step of rack time is announced to the trigger unit and to both cadence units, with its signed amount (R112, R146,
R154). -/
def State.announceStep (s : State) (amount : Int) : State :=
  let s := if 0 < amount then s.firePassed else s
  { s with cadence := mapAll (CadenceUnit.afterStep s.ns) s.cadence }

end Sys2Proof.Machine
end

