-- ==== Sys2Proof/Machine/Timebase.lean ====
section
/-! DEFINITION. The rack time unit (05): the tick of its counter (R93), its timing state (R95), the exchange (R101,
R104, R105), from an answer to a correction (R106 to R111), steps (R109, R112); and the upstream selector (06). -/

namespace Sys2Proof.Machine

/-! ### The counter and the timing state -/

/-- The increment of one tick: 2^27 + C fraction units (R93). -/
def RackTime.tick (t : RackTime) : RackTime :=
  { t with counter := t.counter + BitVec.ofInt 72 (2 ^ 27 + t.correction) }

/-- A change of timing state raises TIMING-STATE (R95); entering LOCKED sets the held-rate flag (R99). -/
def State.setTimingState (s : State) (x : TimingState) : State :=
  if s.time.state = x then s
  else (s.modTime fun t => { t with state := x, heldRate := t.heldRate || x == .locked }).raise .timingState

/-- The outstanding query is abandoned, the history and the outlier run cleared, and the missed run, the lock run and the
last offset set to 0 or absent (R97, R98, R119). -/
def RackTime.clearExchange (t : RackTime) : RackTime :=
  { t with outstanding := none, history := [], outlierRun := 0, missedRun := 0, lockRun := 0, lastOffset := none }

/-- The counter is set, as a step: counted, TIME-STEP raised, and announced (R109, R112, R116). The stamps of this tick keep the
old value (`State.stampNs`). -/
def State.stepTo (s : State) (counter : BitVec 72) : State :=
  let old := s.ns
  let s := (s.modTime fun t => { t with counter := counter }).count (.timing .steps)
  (s.raise .timeStep).announceStep (stampDiff s.ns old)

/-! ### From an answer to a correction -/

/-- The mean of the delay history: floor of sum over number (R107); 0 on an empty history, which no rule reads. -/
def historyMean (l : List Int) : Int := l.sum / l.length

/-- What R107 makes of a delay sample. -/
inductive Sample where
  /-- Entered, with the history as it now stands; the exchange goes on. -/
  | entered (history : List Int)
  /-- An outlier; the exchange ends. -/
  | outlier
  /-- The fourth outlier in a row: the history restarts from it; the exchange goes on. -/
  | restart
deriving DecidableEq, Repr

/-- The treatment of a delay sample (R107). -/
def RackTime.sample (t : RackTime) (d : Int) : Sample :=
  if t.history.length < Config.historyCap then .entered (t.history ++ [d])
  else if d ≤ 2 * historyMean t.history + 64 then .entered (t.history.tail ++ [d])
  else if t.outlierRun ≤ 2 then .outlier
  else .restart

/-- Lock accounting after a slew with offset θ (R111). -/
def State.accountLock (s : State) (theta : Int) : State :=
  let inside := decide (theta.natAbs ≤ s.time.settings.window)
  let setRun (s : State) (n : Nat) : State := s.modTime fun t => { t with lockRun := n }
  match s.time.state, inside with
  | .acquiring, true =>
    if 3 ≤ s.time.lockRun then setRun (s.setTimingState .locked) 0 else setRun s (s.time.lockRun + 1)
  | .acquiring, false => setRun s 0
  | .locked, true => setRun s 0
  | .locked, false =>
    if 1 ≤ s.time.lockRun then setRun (s.setTimingState .acquiring) 0 else setRun s (s.time.lockRun + 1)
  | .free, _ | .holdover, _ | .source, _ => s

/-- A slew updates I and then C from the offset (R110, R94). -/
def RackTime.slew (t : RackTime) (theta : Int) : RackTime :=
  let base : Int := 24 - (t.settings.interval : Int)
  let i := clampRate (t.integrator + mulPow2 theta (base - t.settings.ki))
  { t with integrator := i, correction := clampRate (mulPow2 theta (base - t.settings.kp) + i) }

/-- The correction an offset θ calls for: a step when |θ| is greater than S (R108, R109), else a slew and lock accounting
(R110, R111). -/
def State.correct (s : State) (theta : Int) : State :=
  let s := s.modTime fun t => { t with lastOffset := some theta }
  if s.time.settings.step < theta.natAbs then
    let s := s.stepTo (withNs s.time.counter (s.ns + BitVec.ofInt 48 theta))
    let s := match s.time.state with
      | .locked => s.setTimingState .acquiring
      | _ => s
    s.modTime fun t => { t with lockRun := 0 }
  else (s.modTime (·.slew theta)).accountLock theta

/-- The history as it now stands gives the mean, the mean the offset, the offset the correction (R108). -/
def State.offset (s : State) (history : List Int) (t1 t2 : Stamp) : State :=
  let s := s.modTime fun t => { t with history := history, outlierRun := 0 }
  s.correct (stampDiff t2 t1 - historyMean history)

/-- An accepted exchange is computed from its four stamps (R106 to R111). -/
def State.computeExchange (s : State) (t1 t2 t3 t4 : Stamp) : State :=
  let round := stampDiff t4 t1 - stampDiff t3 t2
  if round < 0 then s.count (.timing .negativeRounds)
  else
    let d := round / 2
    match s.time.sample d with
    | .entered h => s.offset h t1 t2
    | .outlier => (s.count (.timing .outliers)).modTime fun t => { t with outlierRun := t.outlierRun + 1 }
    | .restart => ((s.count (.timing .outliers)).count (.timing .historyRestarts)).offset [d] t1 t2

/-! ### The upstream selector -/

/-- The rank recorded in a port's neighbour entry; 15 without an entry. -/
def State.recordedRank (s : State) (c : Cable) : Nat :=
  match (s.cable c).neighbour with
  | some n => n.rank.toNat
  | none => 15

/-- The conditions that the candidate test and the keep test share (R123, R125). -/
def State.usable (s : State) (c : Cable) : Bool :=
  (s.cable c).eligible && (s.selector.mute.get c).isNone &&
    match (s.cable c).neighbour with
    | some n => decide (n.rank.toNat ≤ 13) && decide (n.upstream ≠ some s.frame)
    | none => false

/-- The candidate test (R123). -/
def State.candidate (s : State) (c : Cable) : Bool := (s.cable c).state == .active && s.usable c

/-- The keep test (R125): the candidate test with DRAINING allowed beside ACTIVE. -/
def State.keeps (s : State) (c : Cable) : Bool :=
  ((s.cable c).state == .active || (s.cable c).state == .draining) && s.usable c

/-- One more cable port in the search for the best candidate: a later port replaces an earlier one only by a lower
rank (R126). -/
def State.better (s : State) (best : Option Cable) (c : Cable) : Option Cable :=
  if s.candidate c then
    match best with
    | some b => if s.recordedRank c < s.recordedRank b then some c else some b
    | none => some c
  else best

/-- The best candidate: the lowest recorded rank, the earliest port among equal ranks (R126). -/
def State.bestCandidate (s : State) : Option Cable := Cable.all.foldl s.better none

/-- The upstream an evaluation in role FOLLOW finds (R125, R126): the kept upstream, unless a candidate lies two ranks
lower; the best candidate when none is kept. -/
def State.chooseUpstream (s : State) : Option Cable :=
  match s.selector.upstream.filter s.keeps, s.bestCandidate with
  | some u, some b => if s.recordedRank b + 2 ≤ s.recordedRank u then some b else some u
  | some u, none => some u
  | none, best => best

/-- The rack time unit acts on a change of upstream (R98). -/
def State.reportUpstream (s : State) (before after : Option Cable) : State :=
  let s := s.modTime (·.clearExchange)
  match before, after, s.time.state with
  | none, some _, .free | none, some _, .holdover =>
    (s.modTime fun t => { t with holdoverSince := none }).setTimingState .acquiring
  | some _, some _, .acquiring | some _, some _, .locked => s.setTimingState .acquiring
  | some _, none, .acquiring | some _, none, .locked =>
    if s.time.heldRate then
      (s.modTime fun t =>
        { t with correction := clampRate t.integrator, holdoverSince := some s.now }).setTimingState .holdover
    else s.setTimingState .free
  | _, _, _ => s

/-- A loss by missed answers starts the port's mute timer with 1 s to run (R128). -/
def State.mutePort (s : State) (c : Cable) : State :=
  s.modSelector fun x => { x with mute := x.mute.set c (some (s.now + Config.ticks1s)) }

/-- An evaluation (R124 to R127): in role SOURCE no choice is made; in role FOLLOW a change of upstream is reported to the
rack time unit and raises UPSTREAM. -/
def State.evaluate (s : State) : State :=
  match s.time.role with
  | .source => s
  | .follow =>
    let before := s.selector.upstream
    let after := s.chooseUpstream
    if before = after then s
    else ((s.modSelector fun x => { x with upstream := after }).reportUpstream before after).raise .upstream

/-- The selector takes the report of a loss by missed answers that another change has overtaken (R129): the named port is
muted, and the selector evaluates (R128). -/
def State.takeLoss (s : State) : State :=
  match s.selector.lossReport with
  | some c => (((s.modSelector fun x => { x with lossReport := none }).mutePort c)).evaluate
  | none => s

/-- What the selector does at the end of an event that calls on it (R124, R129): it evaluates, then takes the report that
the event has overtaken, if any. The report is taken inside the event of the change, so that the flags of both form one NOTICE
and the values they change are announced once: the spec does not say whether it is an event of its own (R182, R184; the model's
choice, log entry 35). -/
def State.select (s : State) : State := s.evaluate.takeLoss

/-! ### The exchange -/

/-- A query is missed (R104): the state after, and the port to mute when it is the third miss in a row. -/
def State.missQuery (s : State) (c : Cable) : Option Cable × State :=
  let s := (s.count (.timing .missedAnswers)).modTime fun t => { t with outstanding := none }
  if 2 ≤ s.time.missedRun then (some c, s.modTime fun t => { t with missedRun := 0 })
  else (none, s.modTime fun t => { t with missedRun := t.missedRun + 1 })

/-- The next query is made the outstanding query and counted (R101 steps 2 to 5). -/
def State.recordQuery (s : State) (c : Cable) : State :=
  (s.modTime fun t =>
    { t with
      queryNumber := t.queryNumber + 1#8
      outstanding := some ⟨t.queryNumber, c, none, s.now + Config.ticks2ms⟩ }).count (.timing .queriesSent)

/-- A query is sent to the upstream on `c` (R101): the state after, and the port to mute when its refusal by a full timing
queue is the third miss in a row (R104; a refused query is counted as sent, log entry 16). The outstanding query is recorded
before the arbiter can start it, so that its transmit stamp finds it. -/
def State.sendQuery (s : State) (c : Cable) : Option Cable × State :=
  match (s.recordQuery c).offerTiming (.cable c) (.query s.time.queryNumber) with
  | (true, s') => (none, s')
  | (false, s') => s'.missQuery c

end Sys2Proof.Machine
end

