-- ==== Sys2Proof/Machine/Ops.lean ====
section
/-! DEFINITION. Events and what they share: the work of one event (its state, the replies it owes, whether the upstream
selector is to evaluate), the port unit's operations (02), the control unit's (08) and the notice unit's (09), and the
conclusion every event comes to. -/

namespace Sys2Proof.Machine

/-! ### The work of one event -/

/-- A reply that is owed: everything R166 forms it from, less the hub's own frame number. -/
structure ReplyDue where
  arrival : Port
  dest    : Frame
  tag     : BitVec 4
  kind    : BitVec 8
  answer  : Answer
  results : List Word
deriving DecidableEq, Repr

/-- An event in progress: the state so far, the replies owed, in order, whether the upstream selector is to evaluate
(R124), the port whose parking HELLO is to start (R40), and whether the event has already called for its HELLOs (R197, R131). -/
structure Work where
  st        : State
  due       : List ReplyDue
  evaluate  : Bool
  park      : Option Cable
  announced : Bool
deriving DecidableEq, Repr

/-- An event begins. -/
def Work.of (s : State) : Work := ⟨s, [], false, none, false⟩

/-- Change the state of an event in progress. -/
def Work.map (w : Work) (f : State → State) : Work := { w with st := f w.st }

/-- A reply is owed. -/
def Work.owe (w : Work) (r : ReplyDue) : Work := { w with due := w.due ++ [r] }

/-- The upstream selector is to evaluate at the end of the event (R124). -/
def Work.calls (w : Work) : Work := { w with evaluate := true }

/-- The reply to a long operation, from its record (R168). -/
def LongOp.reply (o : LongOp) (k : ReqKind) (a : Answer) (results : List Word) : ReplyDue :=
  ⟨o.arrival, o.origin, o.tag, k.code, a, results⟩

/-! ### Port unit: receiver and training -/

/-- The receiver drops its alignment, and whatever it collects or hunts, and waits for a control word (R9, R23). -/
def State.receiverOff (s : State) (p : Port) : State :=
  s.modPort p fun u => { u with aligned := false, rx := .awaitControl }

/-- A training port sends an ECHO of its own: its number is the echo counter, which then increases; it is the outstanding
echo, and a 100 µs wait begins (R24; that this is the moment of the call: log entry 19). -/
def State.sendOwnEcho (s : State) (c : Cable) : State :=
  (s.modCable c fun u =>
    { u with
      echoCounter := u.echoCounter + 1#8
      outstanding := some ⟨u.echoCounter, s.now + Config.ticks100us⟩
      echoDue := some u.echoCounter }).arbitrate (.cable c)

/-- A training attempt begins (R24): good-return run 0, no outstanding echo; an aligned port sends its first ECHO. An ECHO of the
attempt before that has not started is not sent: the first ECHO of the new attempt takes its place, with the next number (the
model's choice, log entry 36). -/
def State.beginAttempt (s : State) (c : Cable) : State :=
  let s := s.modCable c fun u =>
    { u with
      goodRun := 0
      outstanding := none
      echoDue := none
      attemptEnds := some (s.now + Config.ticks2ms) }
  if (s.port (.cable c)).aligned then s.sendOwnEcho c else s

/-- A training attempt fails: it is counted, and the next begins at once (R24); the budget stands (log entry 20). -/
def State.failAttempt (s : State) (c : Cable) : State :=
  (s.count (.link (.cable c) .trainingRetries)).beginAttempt c

/-! ### Port unit: changes of state -/

/-- What a unit holds on entering TRAINING (R20, R23, R24, R25, R30, R34). The 1 s refresh starts with the next HELLO sent: a port
that reaches service and has sent none since TRAINING, its waiting HELLO dropped by DRAIN PORT, has no refresh due (the model's
choice, R122 counts from the last HELLO sent; log entry 34). -/
def CableUnit.enterTraining (u : CableUnit) (now : Nat) : CableUnit :=
  { u with
    state := .training
    budget := 0
    goodRun := 0
    outstanding := none
    attemptEnds := some (now + Config.ticks2ms)
    greetEnds := none
    repeatAt := none
    refreshAt := none
    cleanRun := none
    neighbour := none
    returnDue := none
    echoDue := none
    helloDue := false }

/-- What a unit holds on entering a quiet state, DARK, PARKED or QUARANTINED (R20, R25, R34); entering DARK clears the
suspect flag (R22). -/
def CableUnit.enterQuiet (u : CableUnit) (x : PortState) : CableUnit :=
  { u with
    state := x
    suspect := u.suspect && x != .dark
    goodRun := 0
    outstanding := none
    attemptEnds := none
    greetEnds := none
    repeatAt := none
    refreshAt := none
    cleanRun := none
    neighbour := none
    returnDue := none
    echoDue := none
    helloDue := false }

/-- What a unit holds on entering GREETING (R26): a HELLO is called for, the 10 ms wait and the 1 ms repeat begin. -/
def CableUnit.enterGreeting (u : CableUnit) (now : Nat) : CableUnit :=
  { u with
    state := .greeting
    goodRun := 2
    outstanding := none
    attemptEnds := none
    greetEnds := some (now + Config.ticks10ms)
    repeatAt := some (now + Config.ticks1ms)
    helloDue := true }

/-- The neighbour entry a HELLO makes (R27, R28). -/
def Neighbour.ofHello (m : HelloMsg) : Neighbour := ⟨m.sender, m.rank, m.upstream, m.role⟩

/-- What a unit holds on entering ACTIVE (R27): neighbour entry, time of entry, clean-run timer, a HELLO called for. -/
def CableUnit.enterActive (u : CableUnit) (m : HelloMsg) (now : Nat) : CableUnit :=
  { u with
    state := .active
    greetEnds := none
    repeatAt := none
    echoDue := none
    neighbour := some (Neighbour.ofHello m)
    lastActive := some now
    cleanRun := some (now + Config.ticks1s)
    helloDue := true }

/-- One when a cut at tick `now` cuts a sample block or a trigger notice (R35, R39, R41). -/
def PortUnit.cutCount (u : PortUnit) (now : Nat) : Nat :=
  match u.tx with
  | some t => if t.source.sampleOrTrigger && !t.sent now then 1 else 0
  | none => 0

/-- The replies owed when a port's long operations are cancelled: its drain, with the discard count, before its loop
test (R35, R168). -/
def CableUnit.cancelled (u : CableUnit) (discards : Nat) : List ReplyDue :=
  (u.drain.map fun d => d.op.reply .drainPort .cancelled [natWord (d.discards + discards)]).toList ++
    (u.loop.map fun l => l.op.reply .loopTest .cancelled []).toList

/-- A cable port leaves ACTIVE or DRAINING for a state other than PARKED (R35). -/
def Work.leaveService (w : Work) (c : Cable) : Work :=
  let p := w.st.port (.cable c)
  let replies := (w.st.cable c).cancelled (p.queues.sampleAndTrigger + p.cutCount w.st.now)
  let s := (w.st.flush (.cable c)).modCable c fun u =>
    { u with neighbour := none, returnDue := none, cleanRun := none, drain := none, loop := none }
  { w with st := s, due := w.due ++ replies, evaluate := true }

/-- What leaving its state does to the transmitter and the queues of a cable port, on the way to `x`: leaving service
(R35), the cut of a parking HELLO (R40), or silence in a quiet state (R1; log entry 13). -/
def Work.depart (w : Work) (c : Cable) (x : PortState) : Work :=
  match (w.st.cable c).state with
  | .active | .draining => w.leaveService c
  | .parked => w.map (·.cut (.cable c))
  | .dark | .training | .greeting | .quarantined =>
    if x = .training then w else w.map (·.silence (.cable c))

/-- A cable port goes to TRAINING, DARK, PARKED (from DARK) or QUARANTINED; the change raises PORT-STATE (R36). -/
def Work.moveTo (w : Work) (c : Cable) (x : PortState) : Work :=
  let w := w.depart c x
  let s := w.st.receiverOff (.cable c)
  let s := s.modCable c fun u => if x = .training then u.enterTraining s.now else u.enterQuiet x
  { w with st := s.raise .portState }

/-- TRAINING when the cable-detect level is present, DARK when it is absent (R41, R48). -/
def CableUnit.retrainState (u : CableUnit) : PortState := if u.level then .training else .dark

/-- A fault quarantines the port (R33): it is suspect, and the fault comes less than 1 s after its last entry to ACTIVE. -/
def CableUnit.faultQuarantines (u : CableUnit) (now : Nat) : Bool :=
  u.suspect &&
    match u.lastActive with
    | some t => decide (now - t < Config.ticks1s)
    | none => false

/-- A fault of a cable port (R32, R33). -/
def Work.fault (w : Work) (c : Cable) : Work :=
  let w := w.map (·.count (.link (.cable c) .faults))
  if (w.st.cable c).faultQuarantines w.st.now then
    (w.map fun s => (s.count (.link (.cable c) .quarantines)).raise .quarantine).moveTo c .quarantined
  else (w.map (·.modCable c fun u => { u with suspect := true })).moveTo c .training

/-- The error budget reaches 8 (R24, R30, R32). -/
def Work.budgetFull (w : Work) (c : Cable) : Work :=
  match (w.st.cable c).state with
  | .training => w.map fun s => (s.modCable c fun u => { u with budget := 0 }).failAttempt c
  | .greeting | .active | .draining => w.fault c
  | .dark | .parked | .quarantined => w

/-- A receive fault of the kind `k` at a port: it is counted, and on a cable port the error budget rises by one, up to
8 (R14, R30). -/
def Work.receiveFault (w : Work) (p : Port) (k : LinkCounter) : Work :=
  let w := w.map (·.count (.link p k))
  match p with
  | .f => w
  | .cable c =>
    let b := (w.st.cable c).budget
    if b < Config.budgetMax then
      let w := w.map (·.modCable c fun u => { u with budget := b + 1 })
      if b + 1 = Config.budgetMax then w.budgetFull c else w
    else w

/-- A frame clash quarantines the port (R26, R28). -/
def Work.clash (w : Work) (c : Cable) : Work :=
  (w.map fun s => (s.count (.link (.cable c) .frameClashes)).raise .frameClash).moveTo c .quarantined

/-- A cable port in GREETING enters ACTIVE on a HELLO (R27). -/
def Work.enterActive (w : Work) (c : Cable) (m : HelloMsg) : Work :=
  (w.map fun s => (s.modCable c fun u => u.enterActive m s.now).raise .portState).calls

/-- A port enters PARKED from DRAINING, its transmitter idle (R40): its timing and control entries are discarded and
counted, its drain is answered, and its parking HELLO is to start. -/
def Work.enterParked (w : Work) (c : Cable) (a : Answer) : Work :=
  let q := (w.st.port (.cable c)).queues
  let replies := ((w.st.cable c).drain.map fun d => d.op.reply .drainPort a [natWord d.discards]).toList
  let s := w.st.countBy (.traffic (.cable c) .parkDiscards) (q.timing.length + q.control.length)
  let s := s.modQueues (.cable c) fun q => { q with timing := [], control := [] }
  let s := s.receiverOff (.cable c)
  let s := s.modCable c fun u => { u.enterQuiet .parked with drain := none }
  { w with st := s.raise .portState, due := w.due ++ replies, evaluate := true, park := some c }

/-! ### Routes, replies and notices -/

/-- The port a message for frame `f` is forwarded by now: the primary when it is ACTIVE, else the alternate when that is
ACTIVE, else none (R174). -/
def State.routeTo (s : State) (f : Frame) : Option Cable :=
  let r := s.ctl.routes[f]
  match r.primary.filter fun c => s.isActive (.cable c) with
  | some c => some c
  | none => r.alternate.filter fun c => s.isActive (.cable c)

/-- The reply R166 forms. -/
def State.formReply (s : State) (r : ReplyDue) : ReplyMsg :=
  ⟨.frame r.dest, s.frame, r.tag, 15#4, r.kind, r.answer.code, r.results⟩

/-- A reply is formed and offered to the control queue of its arrival port: whether it was queued, and the state after. -/
def State.offerReply (s : State) (r : ReplyDue) (restart : Bool) : Bool × State :=
  match s.offerControl r.arrival ⟨.reply (s.formReply r), restart⟩ with
  | (true, s') => (true, s'.count (.control .repliesIssued))
  | (false, s') => (false, s'.count (.control .repliesUndeliverable))

/-- A reply is formed, and queued or discarded (R166). -/
def State.sendReply (s : State) (r : ReplyDue) : State := (s.offerReply r false).2

/-- The NOTICE formed now (R184). -/
def State.formNotice (s : State) : NoticeMsg :=
  ⟨.frame s.notices.report, s.frame, 15#4, s.notices.visible⟩

/-- The port a NOTICE of this hub is offered to: F for the hub's own frame; none when an unassigned hub reports to another
frame, or an assigned hub to 31; else the port of the frame route table (R185). -/
def State.noticePort (s : State) : Option Port :=
  if s.notices.report = s.frame then some .f
  else if s.frame = unassigned ∨ s.notices.report = unassigned then none
  else (s.routeTo s.notices.report).map .cable

/-- A NOTICE is formed and sent, or counted as not sent (R184, R185). -/
def State.sendNotice (s : State) : State :=
  match s.noticePort with
  | none => s.count (.control .noticesNotSent)
  | some p =>
    match s.offerControl p ⟨.notice s.formNotice, false⟩ with
    | (true, s') => s'.count (.control .noticesSent)
    | (false, s') => s'.count (.control .noticesNotSent)

/-! ### The conclusion of an event -/

/-- A HELLO may be called for on the port (R122). -/
def CableUnit.greets (u : CableUnit) : Bool :=
  u.state == .greeting || u.state == .active || u.state == .draining

/-- The event changed the advertised rank, the upstream frame, the role or the frame number (R122). -/
def State.advertChanged (before after : State) : Bool :=
  decide (before.rank ≠ after.rank) || decide (before.upstreamFrame ≠ after.upstreamFrame) ||
    decide (before.time.role ≠ after.time.role) || decide (before.frame ≠ after.frame)

/-- A HELLO is called for on one port when the event calls for one, and the arbiter of a port with a HELLO called for
chooses (R122, R58). -/
def State.callHello (changed : Bool) (s : State) (c : Cable) : State :=
  let s := if changed ∧ (s.cable c).greets then s.modCable c fun u => { u with helloDue := true } else s
  if (s.cable c).helloDue then s.arbitrate (.cable c) else s

/-- HELLOs are called for on every port in GREETING, ACTIVE or DRAINING (R122). -/
def State.callHellos (before after : State) : State :=
  Cable.all.foldl (State.callHello (before.advertChanged after)) after

/-- A flag that is pending and enabled after the event was not so before it (R184, R186). -/
def State.noticeDue (before after : State) : Bool :=
  decide (after.notices.visible &&& ~~~before.notices.visible ≠ 0#12)

/-- The parking HELLO of a port that has entered PARKED starts (R40). -/
def State.startParkingHello (s : State) (c : Cable) : State :=
  s.transmit (.cable c) (.hello (s.helloMsg true)) .parking

/-- An event ends (R124, R122, R184, R168): the selector evaluates when it is called on; a parking HELLO starts; HELLOs
are called for, once an event; a NOTICE is formed when one is due; the replies owed are formed, in order (log entry 14). -/
def State.conclude (before : State) (w : Work) : State :=
  let s := if w.evaluate then w.st.select else w.st
  let s := match w.park with
    | some c => s.startParkingHello c
    | none => s
  let s := if w.announced then s else State.callHellos before s
  let s := if State.noticeDue before s then s.sendNotice else s
  w.due.foldl State.sendReply s

/-- An event takes the machine to the state its work concludes in. -/
def State.endsIn (before : State) (w : Work) : Host.Outcome State Fault Refusal := .next (before.conclude w)

end Sys2Proof.Machine
end

