-- ==== Sys2Proof/Machine/Restart.lean ====
section
/-! DEFINITION. The three resets of the table: PIN_RESET (R193), HUB_RESTART (R169, R199) and the restart's effect on
every block (R48, R66, R92, R119, R133, R158, R181, R192); and how the control unit takes a request (R162 to R164). -/

namespace Sys2Proof.Machine

/-! ### The restart, block by block -/

/-- A cable-port unit after HUB RESTART (R48). The suspect flag is kept, also in DARK. -/
def CableUnit.restarted (u : CableUnit) (now : Nat) : CableUnit :=
  let kept := { u with
    cleanRun := none
    goodRun := 0
    outstanding := none
    attemptEnds := none
    greetEnds := none
    repeatAt := none
    refreshAt := none
    neighbour := none
    drain := none
    loop := none
    returnDue := none
    echoDue := none
    helloDue := false }
  match u.state with
  | .training | .greeting | .active | .draining =>
    if u.level then
      { kept with state := .training, budget := 0, attemptEnds := some (now + Config.ticks2ms) }
    else { kept with state := .dark }
  | .dark | .parked | .quarantined => kept

/-- The port unit of a cable port after HUB RESTART (R66, R9): its transmission is cut, its queues are emptied, its
receiver is not aligned. -/
def PortUnit.restarted (u : PortUnit) (now : Nat) : PortUnit where
  aligned := false
  rx := .awaitControl
  tx := none
  owed := (u.cutTx now).owed
  queues := Queues.empty
  bulkPass := 0

/-- F's port unit after HUB RESTART (R66, R9): its transmission is cut, its queues are emptied, and a hunt in progress
ends; F's receiver stays aligned while F is ACTIVE. -/
def PortUnit.restartedF (u : PortUnit) (now : Nat) : PortUnit where
  aligned := u.aligned
  rx := if u.rx = .hunting then .awaitControl else u.rx
  tx := none
  owed := (u.cutTx now).owed
  queues := Queues.empty
  bulkPass := 0

/-- A stream number after HUB RESTART: the entry kept, the runtime state initial (R92). -/
def StreamUnit.restarted (u : StreamUnit) : StreamUnit :=
  { u with run := StreamRun.initial u.entry.gateLine.isSome }

/-- The rack time unit after HUB RESTART (R119). -/
def RackTime.restarted (t : RackTime) (now : Nat) : RackTime :=
  let t := t.clearExchange
  let t := match t.role with
    | .follow => { t with queryAt := some (now + 2 ^ t.settings.interval) }
    | .source => t
  match t.state with
  | .locked | .acquiring =>
    if t.heldRate then
      { t with state := .holdover, correction := clampRate t.integrator, holdoverSince := some now }
    else { t with state := .free }
  | .source | .holdover | .free => t

/-- The trigger unit after HUB RESTART (R158). -/
def TriggerUnit.restarted (t : TriggerUnit) : TriggerUnit :=
  { t with
    inputs := mapAll (fun i => { i with lastOrigin := none }) t.inputs
    pins := mapAll (fun p => { p with activeUntil := none }) t.pins
    recent := []
    schedule := [] }

/-- HUB RESTART takes effect on every block at one moment (R199). -/
def State.restart (s : State) : State :=
  { s with
    ports := ⟨PerCable.of fun c => (s.port (.cable c)).restarted s.now, (s.port .f).restartedF s.now⟩
    cables := PerCable.of fun c => (s.cable c).restarted s.now
    pool := Pool.empty s.pool.watermark
    streams := mapAll StreamUnit.restarted s.streams
    time := s.time.restarted s.now
    selector := ⟨none, PerCable.of fun _ => none, none, s.selector.losses⟩
    trig := s.trig.restarted
    ctl := { s.ctl with queue := [], restartPending := false }
    notices := { s.notices with flags := 0#12 }
    counters := Bank.zero }

/-! ### Taking a request (R162 to R164) -/

/-- The request at the head of the queue is of the row's kind, and the control unit is not stalled by a pending restart
(R162, R169): the request, and the state without it. -/
def State.takeRequest (s : State) (k : Option ReqKind) : Option (Request × State) :=
  match s.ctl.restartPending, s.ctl.queue with
  | false, r :: rest =>
    if ReqKind.ofCode? r.msg.kind = k then some (r, s.modCtl fun x => { x with queue := rest }) else none
  | _, _ => none

/-- A request's authority suffices for its kind (R163). -/
def State.authorityOk (s : State) (k : ReqKind) (r : Request) : Bool :=
  match r.arrival, k with
  | .f, _ => true
  | .cable _, .hubRestart => false
  | .cable _, .setFrameNumber => s.frame == unassigned
  | .cable _, _ => true

/-- An operand word by its position; 0 beyond the last, which the operand count test of R162 rules out. -/
def Request.op (r : Request) (i : Nat) : Word := r.msg.operands.getD i 0#32

/-- The ownership test (R164). -/
def State.ownerOk (s : State) (k : ReqKind) (r : Request) : Bool :=
  match r.arrival, k with
  | .cable _, .writeStream | .cable _, .clearStream | .cable _, .stageRoute =>
    match finOf? 64 (r.op 0) with
    | some n => !((s.entry n).valid && decide ((s.entry n).owner ≠ r.msg.origin))
    | none => true
  | _, _ => true

/-- The outcome of the first of tests 2 to 4 of R162 that fails; none when the owning block carries the request out. -/
def State.refusal? (s : State) (k : ReqKind) (r : Request) : Option Answer :=
  if r.msg.operands.length ≠ k.operandCount then some .range
  else if !s.authorityOk k r then some .authority
  else if !s.ownerOk k r then some .owner
  else none

/-- The reply a request is owed (R166). -/
def Request.reply (r : Request) (a : Answer) (results : List Word) : ReplyDue :=
  ⟨r.arrival, r.msg.origin, r.msg.tag, r.msg.kind, a, results⟩

/-- What an owning block gives back for a request (R162): its work, and the answer with its results, or none for a long
operation whose reply waits (R168). -/
structure Served where
  work  : Work
  reply : Option (Answer × List Word)
deriving DecidableEq, Repr

/-- DONE with results. -/
def Served.done (w : Work) (results : List Word := []) : Served := ⟨w, some (.done, results)⟩

/-- An outcome other than DONE, nothing changed. -/
def Served.refuse (s : State) (a : Answer) : Served := ⟨Work.of s, some (a, [])⟩

/-- A long operation begins; its reply waits (R168). -/
def Served.waits (w : Work) : Served := ⟨w, none⟩

/-- The work of a served request with its own reply owed last (R168). -/
def Served.work' (v : Served) (r : Request) : Work :=
  match v.reply with
  | some (a, results) => v.work.owe (r.reply a results)
  | none => v.work

/-- The control unit takes the head request of kind `k`, tests it and has the owning block act on it, in one event
(R162). When the head is of another kind, or nothing can be taken, this event does not happen. -/
def State.serve (s : State) (k : ReqKind) (act : State → Request → Served) : Host.Outcome State Fault Refusal :=
  match s.takeRequest (some k) with
  | none => .next s
  | some (r, s1) =>
    match s1.refusal? k r with
    | some a => s.endsIn ((Work.of s1).owe (r.reply a []))
    | none => s.endsIn ((act s1 r).work' r)

/-! ### The meanings -/

/-- PIN_RESET (R193): the straps are sampled and every block takes its pin-reset state (R47, R65, R91, R118, R132, R157,
R180). The commands that wait go on waiting. -/
def execPinReset (pins : PinLevels) (s : State) : Host.Outcome State Fault Refusal :=
  .next (State.atPinReset pins s.pending)

/-- HUB_RESTART (R169, R199): answered DONE, the restart becomes pending; it takes effect at once when the reply cannot be
queued. -/
def execHubRestart (s : State) : Host.Outcome State Fault Refusal :=
  match s.takeRequest (some .hubRestart) with
  | none => .next s
  | some (r, s1) =>
    match s1.refusal? .hubRestart r with
    | some a => s.endsIn ((Work.of s1).owe (r.reply a []))
    | none =>
      match s1.offerReply (r.reply .done []) true with
      | (true, s2) => .next (s2.modCtl fun x => { x with restartPending := true })
      | (false, s2) => .next s2.restart

/-- The restart's DONE reply is in transmission on F. -/
def State.restartReplySending (s : State) : Bool :=
  match (s.port .f).tx with
  | some t => t.source == .control true
  | none => false

/-- The restart's DONE reply waits in F's control queue. -/
def State.restartReplyQueued (s : State) : Bool := (s.port .f).queues.control.any (·.restart)

/-- RESTART_TAKES_EFFECT (R169): with a restart pending, its DONE reply's transmission on F ends, or the reply is no longer
on F, and the restart takes effect. While the reply still waits in F's queue the moment has not come. -/
def execRestartTakesEffect (s : State) : Host.Outcome State Fault Refusal :=
  if s.ctl.restartPending then
    if s.restartReplySending then .next (s.endTx .f).restart
    else if s.restartReplyQueued && s.fActive then .next s
    else .next s.restart
  else .next s

end Sys2Proof.Machine
end

