-- ==== Sys2Proof/Machine/PortEvents.lean ====
section
/-! DEFINITION. The events of a port: pins and line events, receive faults, the port unit's timers, ends of
transmissions, drains and loop tests (01, 02, 03). An event that reaches a port in a state its rule does not name leaves
the hub as it is (R20). -/

namespace Sys2Proof.Machine

/-! ### The receiver -/

/-- The receiver of a port listens and is aligned (R9). -/
def State.hears (s : State) (p : Port) : Bool :=
  (s.port p).aligned &&
    match p with
    | .cable c =>
      match (s.cable c).state with
      | .training | .greeting | .active | .draining => true
      | .dark | .parked | .quarantined => false
    | .f => s.fActive

/-- The receiver takes the next data word as the first word of a message (R10). -/
def State.collects (s : State) (p : Port) : Bool := s.hears p && (s.port p).rx == .ready

/-- What the receiver of a port waits for next. -/
def State.setRx (s : State) (p : Port) (x : RxPhase) : State := s.modPort p fun u => { u with rx := x }

/-- HEADING_FAULT (R11): counted, charged to the budget, and the receiver hunts. -/
def execHeadingFault (p : Port) (s : State) : Host.Outcome State Fault Refusal :=
  if s.collects p then s.endsIn ((Work.of (s.setRx p .hunting)).receiveFault p .headingFaults) else .next s

/-- CHECK_FAILURE (R12, R10): counted and charged to the budget. After a failed check word the receiver waits for a control
word, and a data word before it is no second fault of the message (R14); after a bad count field and after an overrun it
hunts; and a control word that cut the message short lets the next one start. An overrun is taken after a good message. -/
def execCheckFailure (p : Port) (cause : CheckCause) (s : State) : Host.Outcome State Fault Refusal :=
  match cause with
  | .checkWord =>
    if s.collects p then s.endsIn ((Work.of (s.setRx p .awaitControl)).receiveFault p .checkFailures) else .next s
  | .countField =>
    if s.collects p then s.endsIn ((Work.of (s.setRx p .hunting)).receiveFault p .checkFailures) else .next s
  | .cutShort =>
    if s.collects p then s.endsIn ((Work.of s).receiveFault p .checkFailures) else .next s
  | .overrun =>
    if s.hears p && (s.port p).rx == .afterCheck then
      s.endsIn ((Work.of (s.setRx p .hunting)).receiveFault p .checkFailures)
    else .next s

/-- ADDRESS_CODE_FAULT (R13): counted and charged to the budget; the receiver waits for a control word. -/
def execAddressCodeFault (p : Port) (s : State) : Host.Outcome State Fault Refusal :=
  if s.collects p then s.endsIn ((Work.of (s.setRx p .awaitControl)).receiveFault p .addressFaults) else .next s

/-- ABORTED_MESSAGE (R15): counted, not a receive fault; the receiver waits for the next control word (log entry 12). -/
def execAbortedMessage (p : Port) (s : State) : Host.Outcome State Fault Refusal :=
  if s.collects p then .next ((s.setRx p .awaitControl).count (.link p .aborted)) else .next s

/-- HUNT_ENDS (R9, R10, R11): a control word ends the hunt or the wait. -/
def execHuntEnds (p : Port) (s : State) : Host.Outcome State Fault Refusal :=
  if s.hears p then .next (s.setRx p .ready) else .next s

/-! ### Alignment -/

/-- RECEIVER_ALIGNED (R23, R24): a training port sends its first ECHO. -/
def execReceiverAligned (c : Cable) (s : State) : Host.Outcome State Fault Refusal :=
  if (s.cable c).state = .training ∧ (s.port (.cable c)).aligned = false then
    let s' := s.modPort (.cable c) fun u => { u with aligned := true, rx := .awaitControl }
    .next (if (s.cable c).outstanding = none then s'.sendOwnEcho c else s')
  else .next s

/-- A training port loses alignment (R23, R25): good-return run 0, the outstanding echo abandoned, nothing waits to be
sent. -/
def State.loseTrainingAlignment (s : State) (c : Cable) : State :=
  (s.receiverOff (.cable c)).modCable c fun u =>
    { u with goodRun := 0, outstanding := none, echoDue := none, returnDue := none }

/-- LOSS_OF_ALIGNMENT (R23, R32, R9): in TRAINING the attempt continues from the start; in GREETING, ACTIVE and DRAINING,
with the cable present, it is a fault; on F it ends a hunt, and F's receiver aligns again by itself. -/
def execLossOfAlignment (p : Port) (s : State) : Host.Outcome State Fault Refusal :=
  match p with
  | .f => if s.fActive then .next (s.setRx .f .awaitControl) else .next s
  | .cable c =>
    match (s.cable c).state with
    | .training => .next (s.loseTrainingAlignment c)
    | .greeting | .active | .draining =>
      if (s.cable c).level then s.endsIn ((Work.of s).fault c) else .next (s.receiverOff (.cable c))
    | .dark | .parked | .quarantined => .next s

/-- RETRAINING_SEEN (R23): ACTIVE and DRAINING go to TRAINING without a fault. -/
def execRetrainingSeen (c : Cable) (s : State) : Host.Outcome State Fault Refusal :=
  match (s.cable c).state with
  | .active | .draining => s.endsIn ((Work.of s).moveTo c .training)
  | .dark | .training | .greeting | .parked | .quarantined => .next s

/-! ### Cable detect and F's presence -/

/-- What a detect edge does to the port state (R22); none when the state is kept. -/
def CableUnit.edgeTarget (u : CableUnit) (present : Bool) : Option PortState :=
  if present then
    match u.state with
    | .dark => some (if u.admits then .training else .parked)
    | .training | .greeting | .active | .draining | .parked | .quarantined => none
  else
    match u.state with
    | .training | .greeting | .active | .draining => some .dark
    | .dark | .parked | .quarantined => none

/-- The debounced level changes: the inserted or removed flag is set and PRESENCE is raised (R21). -/
def State.detectEdge (s : State) (c : Cable) (present : Bool) : State :=
  (s.modCable c fun u =>
    { u with
      level := present
      inserted := u.inserted || present
      removed := u.removed || !present }).raise .presence

/-- DETECT_EDGE (R21, R22). A level equal to the debounced level is no edge. -/
def execDetectEdge (c : Cable) (present : Bool) (s : State) : Host.Outcome State Fault Refusal :=
  if (s.cable c).level = present then .next s
  else
    let w := Work.of (s.detectEdge c present)
    match (s.cable c).edgeTarget present with
    | some x => s.endsIn (w.moveTo c x)
    | none => s.endsIn w

/-- F_ENTERS_ACTIVE (R45): F sends IDLE and then what its arbiter chooses, and listens; its receiver aligns by itself
(R9). -/
def execFEntersActive (s : State) : Host.Outcome State Fault Refusal :=
  if s.fActive then .next s
  else
    .next (({ s with fActive := true }.modPort .f fun u =>
      { u.owe s.now (ticksPerWord (s.rateOf .f)) with aligned := true, rx := .awaitControl }).arbitrate .f)

/-- F_ENTERS_DOWN (R46): F's transmission is cut, its queues are flushed, its receiver stops. A pending restart takes
effect (R169). -/
def execFEntersDown (s : State) : Host.Outcome State Fault Refusal :=
  if s.fActive then
    let s' := ({ s with fActive := false }.flush .f).receiverOff .f
    .next (if s.ctl.restartPending then s'.restart else s')
  else .next s

/-! ### Timers of a port unit -/

/-- DECAY_STEP (R30): a non-zero error budget falls by one; the freely running timer goes on. -/
def execDecayStep (c : Cable) (s : State) : Host.Outcome State Fault Refusal :=
  .next (s.modCable c fun u =>
    { u with
      budget := u.budget - 1
      decayAt := if u.decayAt ≤ s.now then u.decayAt + Config.ticks1ms else u.decayAt })

/-- TRAINING_ATTEMPT_TIMEOUT (R24): the attempt fails, the next begins. -/
def execTrainingAttemptTimeout (c : Cable) (s : State) : Host.Outcome State Fault Refusal :=
  if (s.cable c).state = .training then .next (s.failAttempt c) else .next s

/-- ECHO_WAIT_EXPIRY (R24): the good-return run becomes 0, no echo is outstanding, and the next ECHO is sent. An ECHO whose wait
ran out before it started is not sent: the next takes its place, with the next number (the model's choice, log entry 36). -/
def execEchoWaitExpiry (c : Cable) (s : State) : Host.Outcome State Fault Refusal :=
  if (s.cable c).state = .training ∧ (s.cable c).outstanding.isSome then
    let s' := s.modCable c fun u => { u with goodRun := 0, outstanding := none, echoDue := none }
    .next (if (s.port (.cable c)).aligned then s'.sendOwnEcho c else s')
  else .next s

/-- GREETING_WAIT_EXPIRY (R26): the port goes to TRAINING and counts one training retry. -/
def execGreetingWaitExpiry (c : Cable) (s : State) : Host.Outcome State Fault Refusal :=
  if (s.cable c).state = .greeting then
    s.endsIn ((Work.of (s.count (.link (.cable c) .trainingRetries))).moveTo c .training)
  else .next s

/-- A HELLO is called for on a port (R25). -/
def State.demandHello (s : State) (c : Cable) : State :=
  (s.modCable c fun u => { u with helloDue := true }).arbitrate (.cable c)

/-- HELLO_REPEAT (R26): each 1 ms in GREETING. -/
def execHelloRepeat (c : Cable) (s : State) : Host.Outcome State Fault Refusal :=
  if (s.cable c).state = .greeting then
    .next ((s.modCable c fun u => { u with repeatAt := some (s.now + Config.ticks1ms) }).demandHello c)
  else .next s

/-- HELLO_REFRESH (R122): 1 s after the port last sent a HELLO, in ACTIVE or DRAINING. -/
def execHelloRefresh (c : Cable) (s : State) : Host.Outcome State Fault Refusal :=
  match (s.cable c).state with
  | .active | .draining => .next (s.demandHello c)
  | .dark | .training | .greeting | .parked | .quarantined => .next s

/-- CLEAN_RUN_TIMER_RUNS_OUT (R34): the suspect flag is cleared. -/
def execCleanRunTimerRunsOut (c : Cable) (s : State) : Host.Outcome State Fault Refusal :=
  if (s.cable c).cleanRun.isSome then
    .next (s.modCable c fun u => { u with suspect := false, cleanRun := none })
  else .next s

/-! ### Ends of transmissions -/

/-- TRANSMISSION_ENDS (R61, R38, R169): the reference of a sample block is released; the end of a restart's reply makes the
restart take effect before F's arbiter chooses again; a closed drain parks its port; else the next choice is made. Where this end is
what lets a drain close, the choice of R61 comes first and DRAIN_CLOSES is taken after it, so a waiting timing or control
message, or link maintenance, may still start (the model's choice between R38 and R58, log entry 27). -/
def execTransmissionEnds (p : Port) (s : State) : Host.Outcome State Fault Refusal :=
  match (s.port p).tx with
  | none => .next s
  | some t =>
    if t.source = .parking then .next s
    else
      let s' := (s.endTx p).releaseTx t.source
      if t.source = .control true ∧ s.ctl.restartPending then .next s'.restart
      else
        match p with
        | .f => .next (s'.arbitrate .f)
        | .cable c =>
          if (s.cable c).state = .draining ∧ s.drainClosed c then s.endsIn ((Work.of s').enterParked c .done)
          else .next (s'.arbitrate (.cable c))

/-- PARKING_HELLO_ENDS (R40): the parked port sends no more words. -/
def execParkingHelloEnds (c : Cable) (s : State) : Host.Outcome State Fault Refusal :=
  match (s.port (.cable c)).tx with
  | some t => if t.source = .parking then .next (s.silence (.cable c)) else .next s
  | none => .next s

/-! ### Drains and loop tests -/

/-- A sample block or a trigger notice is in transmission: until its TRANSMISSION_ENDS is taken (R38). -/
def PortUnit.sendsSample (u : PortUnit) : Bool :=
  match u.tx with
  | some t => t.source.sampleOrTrigger
  | none => false

/-- A drain can close (R38): the port is DRAINING with a drain that has not closed, its sample and trigger queues are
empty, and no sample block or trigger notice is in transmission. -/
def State.drainCanClose (s : State) (c : Cable) : Bool :=
  (s.cable c).state == .draining &&
    (match (s.cable c).drain with
      | some d => !d.closed
      | none => false) &&
    (s.port (.cable c)).queues.sampleAndTrigger == 0 && !(s.port (.cable c)).sendsSample

/-- DRAIN_CLOSES (R38, R40): the port parks at once when nothing is in transmission, else when that transmission ends; the
timeout stops. -/
def execDrainCloses (c : Cable) (s : State) : Host.Outcome State Fault Refusal :=
  if s.drainCanClose c then
    let s' := s.modCable c fun u => { u with drain := u.drain.map fun d => { d with closed := true, timeout := none } }
    if (s.port (.cable c)).tx = none then s.endsIn ((Work.of s').enterParked c .done) else .next s'
  else .next s

/-- The removal of a drain timeout (R39, R64): the transmission in progress is cut; the trigger, urgent and bulk entries are
removed, released and counted; the discard count takes them and a cut sample block or trigger notice. -/
def State.removal (s : State) (c : Cable) : State :=
  let u := s.port (.cable c)
  let n := u.queues.sampleAndTrigger
  let k := u.cutCount s.now
  let s := s.cut (.cable c)
  let s := s.modPort (.cable c) fun u =>
    { u with queues := { u.queues with trigger := [], urgent := [], bulk := [] }, bulkPass := 0 }
  let s := s.releaseAll (u.queues.urgent ++ u.queues.bulk)
  let s := s.countBy (.traffic (.cable c) .flushed) n
  s.modCable c fun u => { u with drain := u.drain.map fun d => { d with discards := d.discards + k + n } }

/-- DRAIN_TIMEOUT (R39): before the drain closes, it ends with the removal; the port parks, the drain is answered
TIMED-OUT. -/
def execDrainTimeout (c : Cable) (s : State) : Host.Outcome State Fault Refusal :=
  if (s.cable c).state = .draining ∧ (s.cable c).drain.isSome ∧ s.drainClosed c = false then
    s.endsIn ((Work.of (s.removal c)).enterParked c .timedOut)
  else .next s

/-- A pending loop test ends (R43, R168). -/
def Work.endLoopTest (w : Work) (c : Cable) (l : LoopTest) (a : Answer) (results : List Word) : Work :=
  (w.map (·.modCable c fun u => { u with loop := none })).owe (l.op.reply .loopTest a results)

/-- A returned ECHO with number `n` and receive stamp `stamp` is taken by a port in ACTIVE (R43): the loop test whose number
it carries, once its own ECHO has been sent, is answered DONE with the round trip; any other number is discarded. -/
def Work.loopReturn (w : Work) (c : Cable) (stamp : Stamp) (n : BitVec 8) : Work :=
  match (w.st.cable c).loop with
  | some l =>
    match l.sent with
    | some t1 => if l.number = n then w.endLoopTest c l .done [intWord (limit32 (stampDiff stamp t1))] else w
    | none => w
  | none => w

/-- LOOP_TEST_RETURN (R43): the returned ECHO of a pending loop test is taken. -/
def execLoopTestReturn (c : Cable) (stamp : Ago) (number : BitVec 8) (s : State) : Host.Outcome State Fault Refusal :=
  if s.collects (.cable c) then
    let s' := s.setRx (.cable c) .afterCheck
    if (s.cable c).state = .active then s.endsIn ((Work.of s').loopReturn c (s.rxStamp stamp) number) else .next s'
  else .next s

/-- LOOP_TEST_TIMEOUT (R43): 100 µs have passed since the loop test's ECHO was sent. -/
def execLoopTestTimeout (c : Cable) (s : State) : Host.Outcome State Fault Refusal :=
  match (s.cable c).loop with
  | some l => if l.sent.isSome then s.endsIn ((Work.of s).endLoopTest c l .timedOut []) else .next s
  | none => .next s

end Sys2Proof.Machine
end

