-- ==== Sys2Proof/Machine/Streams.lean ====
section
/-! DEFINITION. The stream forwarder: the admission of a sample block (R79 to R89) and the stream requests (R71 to R77). -/

namespace Sys2Proof.Machine

/-! ### Admission -/

/-- The sequence check (R81): the number of sequences missed, or none for a stale block. -/
def sequenceGap (expected : Option (BitVec 8)) (s : BitVec 8) : Option Nat :=
  match expected with
  | none => some 0
  | some e => if (s - e).toNat ≤ 127 then some (s - e).toNat else none

/-- The stamp and quality a block leaves step 7 with (R83). -/
def State.stampBlock (s : State) (e : StreamEntry) (rx : Stamp) (m : SampleMsg) : Stamp × Quality :=
  match e.mode with
  | .stampAtEntry => (rx, s.quality)
  | .carry => (m.stamp, Quality.ofCode m.quality)

/-- The lateness check drops a block (R84). -/
def State.lateBlock (s : State) (e : StreamEntry) (stamp : Stamp) (q : Quality) : Bool :=
  decide (e.lateness ≠ 0) && (s.time.state == .source || s.time.state == .locked) && q == .traceable &&
    decide ((e.lateness * 1000 : Int) < max 0 (stampDiff s.ns stamp))

/-- A pending route whose switch sequence is reached is adopted (R85). -/
def State.adoptRoute (s : State) (n : StreamNo) (q : BitVec 8) : State :=
  match (s.run n).pendingRoute with
  | some r =>
    if (q - r.switch).toNat < 128 then
      ((s.modEntry n fun e => { e with route := r.route }).modRun n fun u => { u with pendingRoute := none }).raise
        .routeAdopted
    else s
  | none => s

/-- The on-alternate flag takes a value; a change raises FAILOVER (R86). -/
def State.setOnAlternate (s : State) (n : StreamNo) (b : Bool) : State :=
  if (s.run n).onAlternate = b then s else (s.modRun n fun u => { u with onAlternate := b }).raise .failover

/-- Where the protected copy goes (R86): the protected port, the alternate, or nowhere, counted as no path. -/
def State.placeProtected (s : State) (n : StreamNo) (r : StreamRoute) : Option Port × State :=
  match r.protect with
  | none => (none, s)
  | some p =>
    if s.isActive p then (some p, s.setOnAlternate n false)
    else
      match r.alternate.filter s.isActive with
      | some a => (some a, s.setOnAlternate n true)
      | none => (none, s.count (.stream n .noPath))

/-- The members of the output set other than the protected port, in port number order (R87). -/
def StreamRoute.others (r : StreamRoute) : List Port :=
  Port.all.filter fun p => portIn p r.outputs && decide (r.protect ≠ some p)

/-- The effective outputs of a block, in port number order, each lost copy counted as no path (R86, R87). -/
def State.effectiveOutputs (s : State) (n : StreamNo) (r : StreamRoute) : List Port × State :=
  let placed := s.placeProtected n r
  let lost := r.others.filter fun p => !s.isActive p
  (Port.all.filter fun p => decide (placed.1 = some p) || (s.isActive p && decide (p ∈ r.others)),
    placed.2.countBy (.stream n .noPath) lost.length)

/-- A gate's remaining count, when counting, falls by one as a slot is taken; at 0 the gate closes (R88, R90). -/
def StreamRun.spend (u : StreamRun) : StreamRun :=
  match u.remaining with
  | some k => { u with remaining := some (k - 1), gateOpen := u.gateOpen && k - 1 != 0 }
  | none => u

/-- The block in slot `i` is offered to each output in order (R89): the ports that took an entry, and the state after. -/
def State.offerAll (s : State) (cls : StreamClass) (i : Fin 96) (outs : List Port) : List Port × State :=
  outs.foldl (fun acc p =>
    match acc.2.offerSample p cls i with
    | (true, s') => (acc.1 ++ [p], s')
    | (false, s') => (acc.1, s')) ([], s)

/-- Step 11 of admission (R89, R51): entries are made, the slot's reference count is set to their number; then the arbiters
of the ports that gained an entry choose (R58). -/
def State.queueBlock (s : State) (n : StreamNo) (q : BitVec 8) (i : Fin 96) (outs : List Port) : State :=
  let made := s.offerAll (s.entry n).cls i outs
  let s := made.2.modPool (·.settle i made.1.length)
  if made.1 = [] then s.count (.stream n .queueFull)
  else
    let s := (s.count (.stream n .forwarded)).modRun n fun u => { u with lastAdmitted := some q }
    made.1.foldl State.arbitrate s

/-- Steps 8 to 11 of admission (R85 to R89), with the stamp and quality of step 7. -/
def State.routeBlock (s : State) (m : SampleMsg) (stamp : Stamp) (q : Quality) : State :=
  let n := m.stream
  let s := s.adoptRoute n m.seq
  let (outs, s) := s.effectiveOutputs n (s.entry n).route
  if outs = [] then s
  else if s.held n < (s.entry n).quota then
    match s.takeSlot ⟨n, 0, m.seq, stamp, q, m.samples⟩ with
    | none => s.count (.stream n .shed)
    | some (i, s) => (s.modRun n StreamRun.spend).queueBlock n m.seq i outs
  else s.count (.stream n .shed)

/-- Steps 6 and 7 of admission (R82, R83, R84), for a block whose sequence has been accepted. -/
def State.gateBlock (s : State) (rx : Stamp) (m : SampleMsg) : State :=
  let n := m.stream
  let e := s.entry n
  if (s.run n).gateOpen then
    let (stamp, q) := s.stampBlock e rx m
    if s.lateBlock e stamp q then s.count (.stream n .late) else s.routeBlock m stamp q
  else s.count (.stream n .gated)

/-- The admission of a sample block that arrived on `p` with receive stamp `rx` (R79 to R89). -/
def State.admission (s : State) (p : Port) (rx : Stamp) (m : SampleMsg) : State :=
  let n := m.stream
  let e := s.entry n
  if s.frame = unassigned then s.count (.traffic p .unassignedDrops)
  else if e.valid = false then s.count (.traffic p .unknownStream)
  else if p ≠ e.ingress then s.count (.stream n .misrouted)
  else if m.samples.length ≠ e.length then s.count (.stream n .lengthMismatch)
  else
    match sequenceGap (s.run n).expected m.seq with
    | none => s.count (.stream n .stale)
    | some d =>
      ((s.countBy (.stream n .gap) d).modRun n fun u => { u with expected := some (m.seq + 1#8) }).gateBlock rx m

/-! ### Stream requests -/

/-- The route constraints of R68, against the ingress port. -/
def StreamRoute.legal (r : StreamRoute) (ingress : Port) : Bool :=
  decide (r.outputs ≠ 0#5) && !portIn ingress r.outputs &&
    (match r.protect with
      | some p => portIn p r.outputs
      | none => r.alternate.isNone) &&
    (match r.alternate with
      | some a => !portIn a r.outputs && decide (a ≠ ingress)
      | none => true)

/-- A quota: 0 refused, above 32 clamped (R67). -/
def quotaOf? (w : Word) : Option Nat := if w = 0#32 then none else some (min w.toNat 32)

/-- The owner frame a WRITE STREAM writes (R71): the operand with local authority, the origin with remote authority; 31 is
no owner frame. -/
def Request.owner? (r : Request) : Option Frame :=
  match r.arrival with
  | .f => (finOf? 31 (r.op 1)).map fun n => n.castLE (by decide)
  | .cable _ => if r.msg.origin = unassigned then none else some r.msg.origin

/-- The entry a WRITE STREAM names, or none when an operand is refused (R67, R68, R71). -/
def Request.entry? (r : Request) : Option StreamEntry := do
  let owner ← r.owner?
  let ingress ← portOf? (r.op 2)
  let outputs ← portSetOf? (r.op 3)
  let protect ← optOf? portOf? (r.op 4)
  let alternate ← optOf? portOf? (r.op 5)
  let length ← natOf? 1 64 (r.op 6)
  let quota ← quotaOf? (r.op 7)
  let (cls, mode) ← classModeOf? (r.op 8)
  let gateLine ← optOf? (finOf? 16) (r.op 10)
  let gateCount ← natOf? 0 65535 (r.op 11)
  let route : StreamRoute := ⟨outputs, protect, alternate⟩
  if route.legal ingress then
    some ⟨true, owner, ingress, route, length, quota, cls, mode, min (r.op 9).toNat 1000000, gateLine, gateCount⟩
  else none

/-- WRITE STREAM at the forwarder (R72). -/
def writeStreamAct (s : State) (r : Request) : Served :=
  match finOf? 64 (r.op 0), r.entry? with
  | some n, some e =>
    if e.quota < s.held n then .refuse s .busy
    else
      .done (Work.of { s with
        streams := s.streams.set n ⟨e, StreamRun.initial e.gateLine.isSome⟩ })
  | _, _ => .refuse s .range

/-- CLEAR STREAM at the forwarder (R74): an entry already invalid is not changed. -/
def clearStreamAct (s : State) (r : Request) : Served :=
  match finOf? 64 (r.op 0) with
  | none => .refuse s .range
  | some n =>
    .done (Work.of (if (s.entry n).valid then
      (s.modEntry n fun e => { e with valid := false }).modRun n fun u => { u with pendingRoute := none }
    else s))

/-- The twelve results of part ENTRY (R75). -/
def StreamEntry.results (e : StreamEntry) : List Word :=
  if e.valid then
    [1#32, frameWord e.owner, portWord e.ingress, e.route.outputs.setWidth 32, optWord portWord e.route.protect,
     optWord portWord e.route.alternate, natWord e.length, natWord e.quota, classModeWord e.cls e.mode,
     natWord e.lateness, optWord (fun l => natWord l.val) e.gateLine, natWord e.gateCount]
  else 0#32 :: List.replicate 11 absentWord

/-- The ten results of part RUNTIME (R76). -/
def State.runResults (s : State) (n : StreamNo) : List Word :=
  let u := s.run n
  [natWord (s.held n), optWord (·.setWidth 32) u.expected, optWord (·.setWidth 32) u.lastAdmitted, boolWord u.gateOpen,
   optWord natWord u.remaining, boolWord u.onAlternate,
   optWord (fun r => r.route.outputs.setWidth 32) u.pendingRoute,
   optWord portWord (u.pendingRoute.bind (·.route.protect)),
   optWord portWord (u.pendingRoute.bind (·.route.alternate)),
   optWord (fun r => r.switch.setWidth 32) u.pendingRoute]

/-- READ STREAM at the forwarder (R75, R76). -/
def readStreamAct (s : State) (r : Request) : Served :=
  match finOf? 64 (r.op 0) with
  | none => .refuse s .range
  | some n =>
    if r.op 1 = 0#32 then .done (Work.of s) (s.entry n).results
    else if r.op 1 = 1#32 then .done (Work.of s) (s.runResults n)
    else .refuse s .range

/-- The route a STAGE ROUTE names for an ingress port, or none when it is refused (R77, R68). -/
def Request.stagedRoute? (r : Request) (ingress : Port) : Option PendingRoute := do
  let outputs ← portSetOf? (r.op 1)
  let protect ← optOf? portOf? (r.op 2)
  let alternate ← optOf? portOf? (r.op 3)
  let switch ← natOf? 0 255 (r.op 4)
  let route : StreamRoute := ⟨outputs, protect, alternate⟩
  if route.legal ingress then some ⟨route, BitVec.ofNat 8 switch⟩ else none

/-- STAGE ROUTE at the forwarder (R77). -/
def stageRouteAct (s : State) (r : Request) : Served :=
  match finOf? 64 (r.op 0) with
  | none => .refuse s .range
  | some n =>
    if (s.entry n).valid = false then .refuse s .state
    else if (s.run n).pendingRoute.isSome then .refuse s .busy
    else
      match r.stagedRoute? (s.entry n).ingress with
      | none => .refuse s .range
      | some x => .done (Work.of (s.modRun n fun u => { u with pendingRoute := some x }))

/-- WRITE_STREAM (R72). -/
def execWriteStream (s : State) : Host.Outcome State Fault Refusal := s.serve .writeStream writeStreamAct

/-- READ_STREAM (R75, R76). -/
def execReadStream (s : State) : Host.Outcome State Fault Refusal := s.serve .readStream readStreamAct

/-- CLEAR_STREAM (R74). -/
def execClearStream (s : State) : Host.Outcome State Fault Refusal := s.serve .clearStream clearStreamAct

/-- STAGE_ROUTE (R77). -/
def execStageRoute (s : State) : Host.Outcome State Fault Refusal := s.serve .stageRoute stageRouteAct

end Sys2Proof.Machine
end

