-- ==== Sys2Proof/Machine/Messages.lean ====
section
/-! DEFINITION. The taking of good messages (R16, R29): SAMPLE_BLOCK, the control messages (R159 to R161, R175 to R177),
TRIGGER_NOTICE, the two halves of the exchange (R102, R103), HELLO and ECHO (R24 to R28, R43). -/

namespace Sys2Proof.Machine

/-! ### Handing a message on -/

/-- A good message of a kind other than HELLO and ECHO arrives on a port: the block that owns it acts when the port is in
service (R16); in TRAINING and GREETING it is discarded and counted (R29). A receiver that is not ready to start a message
collects none. -/
def State.handOn (s : State) (p : Port) (act : State → Work) : Host.Outcome State Fault Refusal :=
  if s.collects p then
    let s' := s.setRx p .afterCheck
    if s.inService p then s.endsIn (act s') else .next (s'.count (.link p .notInService))
  else .next s

/-- SAMPLE_BLOCK (R79 to R89). -/
def execSampleBlock (p : Port) (stamp : Ago) (m : SampleMsg) (s : State) : Host.Outcome State Fault Refusal :=
  s.handOn p fun s => Work.of (s.admission p (s.rxStamp stamp) m)

/-! ### Control messages -/

/-- What becomes of a control request (R159, R160). -/
inductive Errand where
  /-- It is for this hub. -/
  | mine
  /-- It is forwarded towards a frame. -/
  | forward (f : Frame)
  /-- It is answered UNREACHABLE. -/
  | unreachable
  /-- It is discarded. -/
  | discard
deriving DecidableEq, Repr

/-- Who a control request is for (R159, R160). -/
def State.errand (s : State) (p : Port) (d : Dest) : Errand :=
  if s.frame = unassigned then
    match p, d with
    | .f, .neighbour => .mine
    | .f, .frame n => if n = unassigned then .mine else .unreachable
    | .cable _, .neighbour => .mine
    | .cable _, .frame _ => .discard
  else
    match d with
    | .neighbour => .mine
    | .frame n => if n = s.frame then .mine else .forward n

/-- A request for this hub is offered to the request queue: it joins and is counted, or is answered BUSY at once (R161). -/
def State.joinQueue (s : State) (r : Request) : Work :=
  if s.ctl.queue.length < Config.requestCap then
    Work.of ((s.modCtl fun x => { x with queue := x.queue ++ [r] }).count (.control .requestsQueued))
  else (Work.of (s.count (.control .queueFullRefusals))).owe (r.reply .busy [])

/-- A request that cannot be forwarded is answered UNREACHABLE and counted (R160, R175). -/
def State.answerUnreachable (s : State) (r : Request) : Work :=
  (Work.of (s.count (.control .unreachableAnswers))).owe (r.reply .unreachable [])

/-- The destination a request for frame `f` carries out of cable port `c`: NEIGHBOUR when `f` is 31 and so is the
neighbour's frame (R174). -/
def State.forwardDest (s : State) (c : Cable) (f : Frame) : Dest :=
  if f = unassigned ∧ (s.cable c).neighbour.map (·.frame) = some unassigned then .neighbour else .frame f

/-- A request is forwarded towards frame `f` (R175, R174). -/
def State.forwardRequest (s : State) (r : Request) (f : Frame) : Work :=
  if r.msg.hop = 0#4 then s.answerUnreachable r
  else
    match s.routeTo f with
    | none => s.answerUnreachable r
    | some c =>
      match s.offerControl (.cable c) ⟨.request { r.msg with dest := s.forwardDest c f, hop := r.msg.hop - 1 }, false⟩ with
      | (true, s') => Work.of (s'.count (.control .requestsForwarded))
      | (false, s') => (Work.of (s'.count (.control .forwardBusyAnswers))).owe (r.reply .busy [])

/-- A control request is taken by the control unit (R159, R160). -/
def State.takeControlRequest (s : State) (p : Port) (m : RequestMsg) : Work :=
  match s.errand p m.dest with
  | .mine => s.joinQueue ⟨p, m⟩
  | .forward f => s.forwardRequest ⟨p, m⟩ f
  | .unreachable => s.answerUnreachable ⟨p, m⟩
  | .discard => Work.of (s.count (.control .unassignedDiscards))

/-- CONTROL_REQUEST (R159, R160, R161, R175). -/
def execControlRequest (p : Port) (m : Received RequestMsg) (s : State) : Host.Outcome State Fault Refusal :=
  s.handOn p fun s => s.takeControlRequest p m.msg

/-- A reply or notice is delivered to the frame endpoint as received (R177). -/
def State.deliver (s : State) (m : ControlMsg) : State :=
  match s.offerControl .f ⟨m, false⟩ with
  | (true, s') => s'.count (.control .deliveredToFrame)
  | (false, s') => s'.count (.control .deliveryDrops)

/-- A reply or notice, with its hop count already lowered, is forwarded towards frame `f` (R176); `hop` is the hop count as
received. -/
def State.forwardOther (s : State) (f : Frame) (hop : BitVec 4) (m : ControlMsg) : State :=
  if f = unassigned ∨ hop = 0#4 then s.count (.control .forwardDrops)
  else
    match s.routeTo f with
    | none => s.count (.control .forwardDrops)
    | some c =>
      match s.offerControl (.cable c) ⟨m, false⟩ with
      | (true, s') => s'.count (.control .repliesForwarded)
      | (false, s') => s'.count (.control .forwardDrops)

/-- A reply or notice is taken by the control unit (R159, R160): `received` as it arrived, `lowered` with its hop count
lower by one. -/
def State.takeOther (s : State) (d : Dest) (hop : BitVec 4) (received lowered : ControlMsg) : State :=
  if s.frame = unassigned then s.count (.control .unassignedDiscards)
  else
    match d with
    | .neighbour => s.deliver received
    | .frame n => if n = s.frame then s.deliver received else s.forwardOther n hop lowered

/-- CONTROL_REPLY (R159, R160, R176, R177). -/
def execControlReply (p : Port) (m : Received ReplyMsg) (s : State) : Host.Outcome State Fault Refusal :=
  let m := m.msg
  s.handOn p fun s => Work.of (s.takeOther m.dest m.hop (.reply m) (.reply { m with hop := m.hop - 1 }))

/-- NOTICE (R159, R160, R176, R177). -/
def execNotice (p : Port) (m : Received NoticeMsg) (s : State) : Host.Outcome State Fault Refusal :=
  let m := m.msg
  s.handOn p fun s => Work.of (s.takeOther m.dest m.hop (.notice m) (.notice { m with hop := m.hop - 1 }))

/-! ### Triggers and the exchange -/

/-- TRIGGER_NOTICE (R138 to R143): discarded without count by an unassigned hub, else taken. -/
def execTriggerNotice (p : Port) (m : Received TriggerMsg) (s : State) : Host.Outcome State Fault Refusal :=
  s.handOn p fun s => Work.of (if s.frame = unassigned then s else (s.takeNotice m.msg (some p)).2)

/-- A DELAY QUERY is answered (R102): a TIME ANSWER joins the timing queue of the arrival port and is counted, or is dropped
there. -/
def State.answerQuery (s : State) (p : Port) (stamp : Stamp) (number : BitVec 8) : State :=
  match s.offerTiming p (.answer number stamp) with
  | (true, s') => s'.count (.timing .queriesAnswered)
  | (false, s') => s'

/-- DELAY_QUERY (R102): its receive stamp is t2 (R18). -/
def execDelayQuery (p : Port) (stamp : Ago) (number : BitVec 8) (s : State) : Host.Outcome State Fault Refusal :=
  s.handOn p fun s => Work.of (s.answerQuery p (s.rxStamp stamp) number)

/-- The tests of R103: t1 of the outstanding query, when the answer is accepted. -/
def State.acceptedT1 (s : State) (p : Port) (m : AnswerMsg) : Option Stamp :=
  match s.time.outstanding with
  | some q =>
    if q.number = m.number ∧ p = .cable q.port ∧ s.selector.upstream = some q.port ∧ m.rank ≠ 15#4 then q.t1 else none
  | none => none

/-- A TIME ANSWER is taken (R103): accepted and computed, or discarded and counted. -/
def State.takeAnswer (s : State) (p : Port) (stamp : Stamp) (m : AnswerMsg) : State :=
  match s.acceptedT1 p m with
  | some t1 =>
    ((s.modTime fun t => { t with outstanding := none, missedRun := 0 }).count (.timing .answersAccepted)).computeExchange
      t1 m.t2 m.t3 stamp
  | none => s.count (.timing .answersDiscarded)

/-- TIME_ANSWER (R103, R106 to R111): its receive stamp is t4. -/
def execTimeAnswer (p : Port) (stamp : Ago) (m : AnswerMsg) (s : State) : Host.Outcome State Fault Refusal :=
  s.handOn p fun s => Work.of (s.takeAnswer p (s.rxStamp stamp) m)

/-! ### HELLO -/

/-- A HELLO whose sender frame is this hub's, and is not 31 (R26, R28). -/
def State.clashes (s : State) (m : HelloMsg) : Bool := decide (m.sender = s.frame) && decide (m.sender ≠ unassigned)

/-- A HELLO taken in GREETING (R26). One with the parking flag set that also carries this hub's frame number goes by its parking
flag (the model's choice, log entry 37). -/
def Work.greetedBy (w : Work) (c : Cable) (m : HelloMsg) : Work :=
  if m.parking then w.moveTo c .training
  else if w.st.clashes m then w.clash c
  else w.enterActive c m

/-- A HELLO taken in ACTIVE or DRAINING (R28). A rewrite that changes nothing passes nothing on to the selector. One with the
parking flag set that also carries this hub's frame number goes by its parking flag (the model's choice, log entry 37). -/
def Work.heardFrom (w : Work) (c : Cable) (m : HelloMsg) : Work :=
  if m.parking then w.moveTo c .training
  else if w.st.clashes m then w.clash c
  else if (w.st.cable c).neighbour = some (Neighbour.ofHello m) then w
  else (w.map (·.modCable c fun u => { u with neighbour := some (Neighbour.ofHello m) })).calls

/-- HELLO (R26, R27, R28); on F (R16) and in TRAINING (R28) it is discarded without count. -/
def execHello (p : Port) (m : Received HelloMsg) (s : State) : Host.Outcome State Fault Refusal :=
  if s.collects p then
    let s' := s.setRx p .afterCheck
    match p with
    | .f => .next s'
    | .cable c =>
      match (s.cable c).state with
      | .greeting => s.endsIn ((Work.of s').greetedBy c m.msg)
      | .active | .draining => s.endsIn ((Work.of s').heardFrom c m.msg)
      | .dark | .training | .parked | .quarantined => .next s'
  else .next s

/-! ### ECHO -/

/-- An ECHO with the returned flag clear is returned: its return waits, in place of one already waiting (R25). -/
def State.returnEcho (s : State) (c : Cable) (n : BitVec 8) : State :=
  (s.modCable c fun u => { u with returnDue := some n }).arbitrate (.cable c)

/-- A good return (R24): the first calls for the next ECHO, the second takes the port to GREETING. Where the return comes before
the ECHO with its number has started, the next takes its place (the model's choice, log entry 36). -/
def Work.goodReturn (w : Work) (c : Cable) : Work :=
  let run := (w.st.cable c).goodRun + 1
  if 2 ≤ run then w.map fun s => (s.modCable c fun u => u.enterGreeting s.now).raise .portState
  else w.map fun s => (s.modCable c fun u => { u with goodRun := run, outstanding := none }).sendOwnEcho c

/-- A returned ECHO is taken by a port in TRAINING (R24): any number but the outstanding one is discarded. -/
def Work.trainingReturn (w : Work) (c : Cable) (n : BitVec 8) : Work :=
  match (w.st.cable c).outstanding with
  | some e => if e.number = n then w.goodReturn c else w
  | none => w

/-- ECHO (R24, R25, R43); on F it is discarded without count (R16). -/
def execEcho (p : Port) (stamp : Ago) (m : EchoMsg) (s : State) : Host.Outcome State Fault Refusal :=
  if s.collects p then
    let s' := s.setRx p .afterCheck
    match p with
    | .f => .next s'
    | .cable c =>
      if m.returned then
        match (s.cable c).state with
        | .training => s.endsIn ((Work.of s').trainingReturn c m.number)
        | .active => s.endsIn ((Work.of s').loopReturn c (s.rxStamp stamp) m.number)
        | .dark | .greeting | .draining | .parked | .quarantined => .next s'
      else .next (s'.returnEcho c m.number)
  else .next s

end Sys2Proof.Machine
end

