-- ==== Sys2Proof/Machine/TimeEvents.lean ====
section
/-! DEFINITION. The timers of the rack time unit and of the selector (R99, R100, R101, R104, R128). -/

namespace Sys2Proof.Machine

/-- What a miss leaves behind (R104, R128): the loss by missed answers mutes the port it names, and the selector
evaluates. Where the report is overtaken (R129: either order may come), the selector takes it after the next change, or when
no other event comes first in the same tick (log entry 32). -/
def Work.ofMiss (x : Option Cable × State) : Work :=
  match x with
  | (some c, s) =>
    let s' := s.modSelector fun x => { x with losses := x.losses + 1 }
    if Config.lossOvertaken s.selector.losses then Work.of (s'.modSelector fun x => { x with lossReport := some c })
    else (Work.of (s'.mutePort c)).calls
  | (none, s) => Work.of s

/-- QUERY_TIMER_EXPIRY (R100, R101): the timer starts again, and with an upstream and no outstanding query a query is sent.
In role SOURCE the timer is stopped and does not expire. -/
def execQueryTimerExpiry (s : State) : Host.Outcome State Fault Refusal :=
  if s.time.role = .follow ∧ s.time.queryAt.isSome then
    let s' := s.modTime fun t => { t with queryAt := some (s.now + 2 ^ t.settings.interval) }
    match s.selector.upstream with
    | some c => if s.time.outstanding = none then s.endsIn (Work.ofMiss (s'.sendQuery c)) else .next s'
    | none => .next s'
  else .next s

/-- ANSWER_WAIT_ENDS (R104, R129). -/
def execAnswerWaitEnds (s : State) : Host.Outcome State Fault Refusal :=
  match s.time.outstanding with
  | some q => s.endsIn (Work.ofMiss (s.missQuery q.port))
  | none => .next s

/-- HOLDOVER ends in FREE, C kept, the timer stopped (R99). -/
def State.endHoldover (s : State) : State :=
  (s.modTime fun t => { t with holdoverSince := none }).setTimingState .free

/-- HOLDOVER_LIMIT_REACHED (R99). -/
def execHoldoverLimitReached (s : State) : Host.Outcome State Fault Refusal :=
  if s.time.state = .holdover then s.endsIn (Work.of s.endHoldover) else .next s

/-- MUTE_TIMER_RUNS_OUT (R128). -/
def execMuteTimerRunsOut (c : Cable) (s : State) : Host.Outcome State Fault Refusal :=
  if (s.selector.mute.get c).isSome then
    s.endsIn (Work.of (s.modSelector fun x => { x with mute := x.mute.set c none })).calls
  else .next s

end Sys2Proof.Machine
end

