-- ==== Sys2Proof/Machine/TriggerEvents.lean ====
section
/-! DEFINITION. The events of the trigger unit and of the cadence units (R134, R135, R144, R152), and the levels of their
output pins. -/

namespace Sys2Proof.Machine

/-! ### Trigger inputs -/

/-- The edge setting selects an edge to `level` (R134). -/
def EdgeSetting.selects (e : EdgeSetting) (level : Bool) : Bool :=
  match e with
  | .off => false
  | .rising => level
  | .falling => !level
  | .both => true

/-- The hold-off runs at tick `now` (R135, R150): the last origination is present, and fewer than ceil(hold-off / 8) ticks
lie between. -/
def TriggerInput.holding (i : TriggerInput) (now : Nat) : Bool :=
  match i.lastOrigin with
  | some t => decide (now - t < ceilDiv i.holdoff 8)
  | none => false

/-- Change a trigger input. -/
def State.modInput (s : State) (i : Fin 4) (f : TriggerInput → TriggerInput) : State :=
  s.modTrig fun t => { t with inputs := modifyAt t.inputs i f }

/-- INPUT_EDGE (R134, R135): the sampled level changes; a selected edge is ignored on an unassigned hub, held off, or
originates a notice. A sample equal to the level is no edge. -/
def execInputEdge (i : Fin 4) (level : Bool) (s : State) : Host.Outcome State Fault Refusal :=
  let u := s.trig.inputs[i]
  if u.level = level then .next s
  else
    let s' := s.modInput i fun u => { u with level := level }
    if u.edge.selects level = true ∧ s.frame ≠ unassigned then
      if u.holding s.now then .next (s'.count (.trigger .heldOff))
      else
        s.endsIn (Work.of
          ((s'.modInput i fun u => { u with lastOrigin := some s.now }).originate u.line
            (s.ns + BitVec.ofNat 48 s.trig.lead)).2)
    else .next s'

/-! ### Firing -/

/-- FIRING (R144, R145): every entry that RT_ns has reached fires, in schedule order. -/
def execFiring (s : State) : Host.Outcome State Fault Refusal :=
  if s.trig.schedule.any (SchedEntry.due s.ns) then s.endsIn (Work.of s.fireDue) else .next s

/-- PIN_COUNT_RUNS_OUT (R144). -/
def execPinCountRunsOut (i : Fin 4) (s : State) : Host.Outcome State Fault Refusal :=
  .next (s.modTrig fun t => { t with pins := modifyAt t.pins i fun p => { p with activeUntil := none } })

/-- The level of a trigger output pin (R144, R148): true is high. -/
def TriggerPin.high (p : TriggerPin) : Bool :=
  match p.polarity with
  | .activeHigh => p.activeUntil.isSome
  | .activeLow => p.activeUntil.isNone

/-! ### Cadence units -/

/-- The level of a cadence output (R152): true is high. -/
def CadenceUnit.high (u : CadenceUnit) : Bool := u.highUntil.isSome

/-- CADENCE_EDGE_TAKEN (R152): a unit whose next edge RT_ns has reached takes it. -/
def execCadenceEdgeTaken (k : Fin 2) (s : State) : Host.Outcome State Fault Refusal :=
  match s.cadence[k].edgeDue s.ns with
  | none => .next s
  | some g =>
    let taken := s.cadence[k].takeEdge k g s.now s.time.state
    let s' := s.modCadence k fun _ => taken.1
    .next (match taken.2 with
      | some c => s'.count (.trigger c)
      | none => s')

/-- CADENCE_PULSE_ENDS (R152). -/
def execCadencePulseEnds (k : Fin 2) (s : State) : Host.Outcome State Fault Refusal :=
  .next (s.modCadence k fun u => { u with highUntil := none })

end Sys2Proof.Machine
end

