-- ==== Sys2Proof/Machine/PortRequests.lean ====
section
/-! DEFINITION. The requests of the control unit itself and of the ports: an unknown kind (R162), identity (R196, R197,
R198), the five port requests (R37, R41 to R44) and the frame route table (R172, R173). -/

namespace Sys2Proof.Machine

/-- UNKNOWN_REQUEST_KIND (R162 test 1): the head request's kind is none of the 29. -/
def execUnknownRequestKind (s : State) : Host.Outcome State Fault Refusal :=
  match s.takeRequest none with
  | none => .next s
  | some (r, s') => s.endsIn ((Work.of s').owe (r.reply .unknown []))

/-! ### Identity -/

/-- The seven results of READ IDENTITY (R198). -/
def State.identity (s : State) : List Word :=
  [0x0B45#32, 1#32, s.straps.fn.setWidth 32, boolWord s.straps.src, boolWord s.straps.admits, frameWord s.frame,
   roleWord s.time.role]

/-- READ IDENTITY carried out (R198). -/
def readIdentityAct (s : State) (_r : Request) : Served := .done (Work.of s) s.identity

/-- READ_IDENTITY (R198). -/
def execReadIdentity (s : State) : Host.Outcome State Fault Refusal := s.serve .readIdentity readIdentityAct

/-- One cable port makes its clash test when the hub's frame number changes (R28, R197 step 3). -/
def Work.clashTest (b : Frame) (w : Work) (c : Cable) : Work :=
  if w.st.inService (.cable c) ∧ b ≠ unassigned ∧ (w.st.cable c).neighbour.map (·.frame) = some b then w.clash c else w

/-- The frame number becomes `b`, and the report frame with it when it was the old number (R197 steps 1 and 2, R183). -/
def State.renumber (s : State) (b : Frame) : State :=
  { s with
    frame := b
    notices := { s.notices with report := if s.notices.report = s.frame then b else s.notices.report } }

/-- The event calls for its HELLOs now, before the selector evaluates, one on each port that greets (R122, R197, R131). A HELLO that
starts at once carries the values as they stand at this point; where step 3 of R197 has quarantined the upstream port these are
rank 15 and no upstream frame, the model's choice (`State.rank`, log entry 33). -/
def Work.announce (before : State) (w : Work) : Work := { w with st := State.callHellos before w.st, announced := true }

/-- A change of frame number (R197), in its five steps, in order: the HELLOs are called for before the selector evaluates, and the event
makes no second call (R122; log entry 33). -/
def State.changeFrame (s : State) (b : Frame) : Work :=
  ((Cable.all.foldl (Work.clashTest b) (Work.of (s.renumber b))).announce s).calls

/-- A new frame number, 0..30 (R196). -/
def frameNumberOf? (w : Word) : Option Frame := (finOf? 31 w).map fun n => n.castLE (by decide)

/-- SET FRAME NUMBER carried out (R196). -/
def setFrameNumberAct (s : State) (r : Request) : Served :=
  match frameNumberOf? (r.op 0) with
  | none => .refuse s .range
  | some b => if b = s.frame then .done (Work.of s) else .done (s.changeFrame b)

/-- SET_FRAME_NUMBER (R196, R197). -/
def execSetFrameNumber (s : State) : Host.Outcome State Fault Refusal := s.serve .setFrameNumber setFrameNumberAct

/-! ### Port requests -/

/-- The fifteen results of READ PORT for a cable port (R44). -/
def CableUnit.results (u : CableUnit) : List Word :=
  [stateWord u.state, boolWord u.suspect, natWord u.budget, boolWord u.level, boolWord u.inserted, boolWord u.removed,
   boolWord u.admits, boolWord u.eligible, rateWord u.rate, boolWord u.drain.isSome, boolWord u.loop.isSome,
   optWord (fun n => frameWord n.frame) u.neighbour, optWord (fun n => n.rank.setWidth 32) u.neighbour,
   optWord frameWord (u.neighbour.bind (·.upstream)), optWord (fun n => roleWord n.role) u.neighbour]

/-- READ PORT carried out (R44). -/
def readPortAct (s : State) (r : Request) : Served :=
  match portOf? (r.op 0), boolOf? (r.op 1) with
  | some .f, some _ => .done (Work.of s) [boolWord s.fActive, boolWord s.fActive]
  | some (.cable c), some clear =>
    .done (Work.of (if clear then s.modCable c fun u => { u with inserted := false, removed := false } else s))
      (s.cable c).results
  | _, _ => .refuse s .range

/-- READ_PORT (R44). -/
def execReadPort (s : State) : Host.Outcome State Fault Refusal := s.serve .readPort readPortAct

/-- A change of rate acts on the port by its state (R42). -/
def Work.changeRate (w : Work) (c : Cable) : Work :=
  match (w.st.cable c).state with
  | .training => w.map fun s => (s.loseTrainingAlignment c).failAttempt c
  | .greeting | .active | .draining => w.moveTo c .training
  | .dark | .parked | .quarantined => w

/-- SET PORT carried out (R42). -/
def setPortAct (s : State) (r : Request) : Served :=
  match cableOf? (r.op 0), boolOf? (r.op 1), boolOf? (r.op 2), rateOf? (r.op 3) with
  | some c, some admits, some eligible, some rate =>
    let w := Work.of (s.modCable c fun u => { u with admits := admits, eligible := eligible, rate := rate })
    let w := if (s.cable c).rate = rate then w else w.changeRate c
    .done (if (s.cable c).eligible = eligible then w else w.calls)
  | _, _, _, _ => .refuse s .range

/-- SET_PORT (R42). -/
def execSetPort (s : State) : Host.Outcome State Fault Refusal := s.serve .setPort setPortAct

/-- The record of a long operation (R168). -/
def Request.longOp (r : Request) : LongOp := ⟨r.arrival, r.msg.origin, r.msg.tag⟩

/-- A port goes from ACTIVE to DRAINING (R37): the drain is pending; the loop test is cancelled (R43); an own ECHO and a
called-for HELLO that have not started are dropped (R25); the selector evaluates (R124). -/
def State.beginDrain (s : State) (c : Cable) (op : LongOp) (ms : Nat) : Work where
  st := (s.modCable c fun u =>
    { u with
      state := .draining
      drain := some ⟨op, some (s.now + ms * Config.ticks1ms), 0, false⟩
      loop := none
      echoDue := none
      helloDue := false }).raise .portState
  due := ((s.cable c).loop.map fun l => l.op.reply .loopTest .cancelled []).toList
  evaluate := true
  park := none
  announced := false

/-- DRAIN PORT carried out (R37). -/
def drainPortAct (s : State) (r : Request) : Served :=
  match cableOf? (r.op 0) with
  | none => .refuse s .range
  | some c =>
    if (s.cable c).drain.isSome then .refuse s .busy
    else if (s.cable c).state ≠ .active then .refuse s .state
    else .waits (s.beginDrain c r.longOp (clampNat 1 10000 (r.op 1).toNat))

/-- DRAIN_PORT (R37). -/
def execDrainPort (s : State) : Host.Outcome State Fault Refusal := s.serve .drainPort drainPortAct

/-- RESTORE PORT carried out (R41). -/
def restorePortAct (s : State) (r : Request) : Served :=
  match cableOf? (r.op 0) with
  | none => .refuse s .range
  | some c =>
    match (s.cable c).state with
    | .parked | .quarantined | .draining =>
      .done (((Work.of s).moveTo c (s.cable c).retrainState).map (·.modCable c fun u => { u with suspect := false }))
    | .dark | .training | .greeting | .active => .refuse s .state

/-- RESTORE_PORT (R41). -/
def execRestorePort (s : State) : Host.Outcome State Fault Refusal := s.serve .restorePort restorePortAct

/-- A loop test begins (R43): its ECHO is called for, with the number of the port's echo counter. -/
def State.beginLoopTest (s : State) (c : Cable) (op : LongOp) : State :=
  (s.modCable c fun u =>
    { u with
      echoCounter := u.echoCounter + 1#8
      loop := some ⟨op, u.echoCounter, none, none⟩
      echoDue := some u.echoCounter }).arbitrate (.cable c)

/-- LOOP TEST carried out (R43). -/
def loopTestAct (s : State) (r : Request) : Served :=
  match cableOf? (r.op 0) with
  | none => .refuse s .range
  | some c =>
    if (s.cable c).loop.isSome then .refuse s .busy
    else if (s.cable c).state ≠ .active then .refuse s .state
    else .waits (Work.of (s.beginLoopTest c r.longOp))

/-- LOOP_TEST (R43). -/
def execLoopTest (s : State) : Host.Outcome State Fault Refusal := s.serve .loopTest loopTestAct

/-! ### The frame route table -/

/-- The entry a WRITE FRAME ROUTE names, or none when it is refused (R172). -/
def Request.frameRoute? (r : Request) : Option FrameRoute :=
  match optOf? cableOf? (r.op 1), optOf? cableOf? (r.op 2) with
  | some none, some none => some ⟨none, none⟩
  | some (some p), some none => some ⟨some p, none⟩
  | some (some p), some (some a) => if a = p then none else some ⟨some p, some a⟩
  | _, _ => none

/-- WRITE FRAME ROUTE carried out (R172). -/
def writeFrameRouteAct (s : State) (r : Request) : Served :=
  match finOf? 32 (r.op 0), r.frameRoute? with
  | some f, some e => .done (Work.of (s.modCtl fun x => { x with routes := x.routes.set f e }))
  | _, _ => .refuse s .range

/-- WRITE_FRAME_ROUTE (R172). -/
def execWriteFrameRoute (s : State) : Host.Outcome State Fault Refusal := s.serve .writeFrameRoute writeFrameRouteAct

/-- READ FRAME ROUTE carried out (R173). -/
def readFrameRouteAct (s : State) (r : Request) : Served :=
  match finOf? 32 (r.op 0) with
  | none => .refuse s .range
  | some f =>
    let e := s.ctl.routes[f]
    .done (Work.of s)
      [optWord cableWord e.primary, optWord cableWord e.alternate,
       if f = s.frame then absentWord else optWord cableWord (s.routeTo f)]

/-- READ_FRAME_ROUTE (R173). -/
def execReadFrameRoute (s : State) : Host.Outcome State Fault Refusal := s.serve .readFrameRoute readFrameRouteAct

end Sys2Proof.Machine
end

