-- ==== Sys2Proof/Machine/TriggerRequests.lean ====
section
/-! DEFINITION. The requests of the trigger unit (R137, R147 to R150) and of the cadence units (R153, R155). -/

namespace Sys2Proof.Machine

/-! ### The trigger unit -/

/-- The map entry a WRITE TRIGGER MAP names, or none when an operand is refused (R147). -/
def Request.mapEntry? (r : Request) : Option MapEntry := do
  let valid ← boolOf? (r.op 1)
  let line ← finOf? 16 (r.op 2)
  let base ← natOf? 0 30 (r.op 3)
  let span ← spanOf? (r.op 4)
  let pin ← optOf? (finOf? 4) (r.op 5)
  some ⟨valid, line, base, span, pin⟩

/-- WRITE TRIGGER MAP carried out (R147). -/
def writeTriggerMapAct (s : State) (r : Request) : Served :=
  match finOf? 8 (r.op 0), r.mapEntry? with
  | some i, some e => .done (Work.of (s.modTrig fun t => { t with map := t.map.set i e }))
  | _, _ => .refuse s .range

/-- WRITE_TRIGGER_MAP (R147). -/
def execWriteTriggerMap (s : State) : Host.Outcome State Fault Refusal := s.serve .writeTriggerMap writeTriggerMapAct

/-- The results of part MAP (R150). -/
def MapEntry.results (e : MapEntry) : List Word :=
  [boolWord e.valid, natWord e.line.val, natWord e.base, natWord e.span, optWord (fun i => natWord i.val) e.pin]

/-- The results of part INPUT (R150). -/
def TriggerInput.results (i : TriggerInput) (now : Nat) : List Word :=
  [edgeWord i.edge, natWord i.line.val, natWord i.holdoff, boolWord i.level, boolWord (i.holding now)]

/-- Ticks left until tick `t`, 0 when there is none. In the tick in which a count runs out, before the row that ends it is
taken, none are left and the output is still active or high: a reading then shows 0 ticks left (the model's choice, log
entry 30). -/
def ticksLeft (t : Option Nat) (now : Nat) : Nat :=
  match t with
  | some t => t - now
  | none => 0

/-- The results of part PIN (R150); at the tick in which the count runs out see `ticksLeft` (log entry 30). -/
def TriggerPin.results (p : TriggerPin) (now : Nat) : List Word :=
  [polarityWord p.polarity, natWord p.width, boolWord p.activeUntil.isSome, natWord (ticksLeft p.activeUntil now)]

/-- The results of a schedule position (R150). -/
def schedResults : Option SchedEntry → List Word
  | none => 0#32 :: List.replicate 7 absentWord
  | some e =>
    1#32 :: (stampWords e.fire ++
      (match e.target with
        | .pin i => [0#32, natWord i.val]
        | .gates => [1#32, natWord e.line.val]) ++
      [frameWord e.origin, e.quality.code.setWidth 32, boolWord e.late])

/-- The results of part STATUS (R150). -/
def TriggerUnit.status (t : TriggerUnit) : List Word :=
  [t.originCounter.setWidth 32, natWord t.lead, natWord t.recent.length, natWord t.schedule.length]

/-- The results of READ TRIGGER MAP for a part and an index, or none when they are refused (R150). -/
def State.triggerResults? (s : State) (part index : Word) : Option (List Word) :=
  match part.toNat with
  | 0 => (finOf? 8 index).map fun i => s.trig.map[i].results
  | 1 => (finOf? 4 index).map fun i => s.trig.inputs[i].results s.now
  | 2 => (finOf? 4 index).map fun i => s.trig.pins[i].results s.now
  | 3 => (finOf? 8 index).map fun i => schedResults s.trig.schedule[i.val]?
  | 4 => some s.trig.status
  | _ => none

/-- READ TRIGGER MAP carried out (R150). -/
def readTriggerMapAct (s : State) (r : Request) : Served :=
  match s.triggerResults? (r.op 0) (r.op 1) with
  | some results => .done (Work.of s) results
  | none => .refuse s .range

/-- READ_TRIGGER_MAP (R150). -/
def execReadTriggerMap (s : State) : Host.Outcome State Fault Refusal := s.serve .readTriggerMap readTriggerMapAct

/-- A pin width: clamped into 8..524,280, then rounded up to a multiple of 8 (R148). -/
def pinWidth (w : Word) : Nat := ceilDiv (clampNat 8 524280 w.toNat) 8 * 8

/-- SET TRIGGER PIN carried out (R148): a count already running is left as it stands. -/
def setTriggerPinAct (s : State) (r : Request) : Served :=
  match finOf? 4 (r.op 0), polarityOf? (r.op 1) with
  | some i, some polarity =>
    .done (Work.of (s.modTrig fun t =>
      { t with pins := modifyAt t.pins i fun p => { p with polarity := polarity, width := pinWidth (r.op 2) } }))
  | _, _ => .refuse s .range

/-- SET_TRIGGER_PIN (R148). -/
def execSetTriggerPin (s : State) : Host.Outcome State Fault Refusal := s.serve .setTriggerPin setTriggerPinAct

/-- SET TRIGGER INPUT carried out (R149): the lead is shared by the four inputs. -/
def setTriggerInputAct (s : State) (r : Request) : Served :=
  match finOf? 4 (r.op 0), edgeOf? (r.op 1), finOf? 16 (r.op 2) with
  | some i, some edge, some line =>
    .done (Work.of ((s.modInput i fun u =>
      { u with edge := edge, line := line, holdoff := min (r.op 3).toNat 1000000, lastOrigin := none }).modTrig
        fun t => { t with lead := min (r.op 4).toNat 1000000000 }))
  | _, _, _ => .refuse s .range

/-- SET_TRIGGER_INPUT (R149). -/
def execSetTriggerInput (s : State) : Host.Outcome State Fault Refusal := s.serve .setTriggerInput setTriggerInputAct

/-- The fire time an ORIGINATE TRIGGER asks for, ABSOLUTE (0) or RELATIVE (1), or none when it does not decode (R137). -/
def State.fireTime? (s : State) (r : Request) : Option Stamp :=
  match stampOf? (r.op 2) (r.op 3) with
  | some t => if r.op 1 = 0#32 then some t else if r.op 1 = 1#32 then some (s.ns + t) else none
  | none => none

/-- ORIGINATE TRIGGER carried out (R137). -/
def originateTriggerAct (s : State) (r : Request) : Served :=
  if s.frame = unassigned then .refuse s .state
  else
    match finOf? 16 (r.op 0), s.fireTime? r with
    | some line, some fire =>
      if malformedFire fire s.ns then .refuse s .range
      else
        let taken := s.originate line fire
        .done (Work.of taken.2) (s.trig.originCounter.setWidth 32 :: (stampWords fire ++ [boolWord taken.1]))
    | _, _ => .refuse s .range

/-- ORIGINATE_TRIGGER (R137). -/
def execOriginateTrigger (s : State) : Host.Outcome State Fault Refusal := s.serve .originateTrigger originateTriggerAct

/-! ### The cadence units -/

/-- The settings a SET CADENCE carries (R151, R153): P is clamped, then φ reduced modulo P, then w clamped; none when a word
is refused. -/
def Request.cadence? (r : Request) : Option CadenceSettings := do
  let mode ← cadenceModeOf? (r.op 1)
  let lockedOnly ← boolOf? (r.op 5)
  let period := clampNat 1000 1000000000 (r.op 2).toNat
  some ⟨mode, period, (r.op 3).toNat % period, clampNat 8 (period - 8) (r.op 4).toNat, lockedOnly⟩

/-- New settings act on a unit by its mode (R153). -/
def CadenceUnit.write (u : CadenceUnit) (c : CadenceSettings) (ns : Stamp) : CadenceUnit :=
  if u.settings.mode = .stopped then
    { u with settings := c, next := if c.mode = .stopped then none else some (c.nextEdge ns) }
  else { u with pending := some c }

/-- SET CADENCE carried out (R153). -/
def setCadenceAct (s : State) (r : Request) : Served :=
  match finOf? 2 (r.op 0), r.cadence? with
  | some k, some c => .done (Work.of (s.modCadence k (·.write c s.ns)))
  | _, _ => .refuse s .range

/-- SET_CADENCE (R153). -/
def execSetCadence (s : State) : Host.Outcome State Fault Refusal := s.serve .setCadence setCadenceAct

/-- Five results for a set of cadence settings (R155). -/
def CadenceSettings.results (c : CadenceSettings) : List Word :=
  [cadenceModeWord c.mode, natWord c.period, natWord c.phase, natWord c.width, boolWord c.lockedOnly]

/-- The fifteen results of READ CADENCE (R155); at the tick in which a pulse runs out see `ticksLeft` (log entry 30). -/
def CadenceUnit.results (u : CadenceUnit) (now : Nat) : List Word :=
  u.settings.results ++
    (match u.pending with
      | some c => 1#32 :: c.results
      | none => 0#32 :: List.replicate 5 absentWord) ++
    (match u.next with
      | some g => stampWords g
      | none => [absentWord, absentWord]) ++
    [boolWord u.high, natWord (ticksLeft u.highUntil now)]

/-- READ CADENCE carried out (R155). -/
def readCadenceAct (s : State) (r : Request) : Served :=
  match finOf? 2 (r.op 0) with
  | some k => .done (Work.of s) (s.cadence[k].results s.now)
  | none => .refuse s .range

/-- READ_CADENCE (R155). -/
def execReadCadence (s : State) : Host.Outcome State Fault Refusal := s.serve .readCadence readCadenceAct

end Sys2Proof.Machine
end

