-- ==== Sys2Proof/Machine/TimeRequests.lean ====
section
/-! DEFINITION. The requests of the rack time unit (R113 to R116, R96, R97, R131) and of the notice unit and the counter
bank (R186 to R191). -/

namespace Sys2Proof.Machine

/-! ### Timing -/

/-- The settings a SET TIMING carries, each clamped into its range (R113). -/
def Request.timing (r : Request) : TimingSettings :=
  let step := clampNat 1000 1000000 (r.op 5).toNat
  { trim := clampRate (r.op 1).toInt
    interval := clampNat 20 27 (r.op 2).toNat
    kp := clampNat 0 7 (r.op 3).toNat
    ki := clampNat 2 12 (r.op 4).toNat
    step := step
    window := min (clampNat 10 10000 (r.op 6).toNat) step
    holdover := clampNat 1 255 (r.op 7).toNat }

/-- The role becomes SOURCE (R97, R131): the upstream is given up, raising UPSTREAM when there was one. -/
def State.becomeSource (s : State) : State :=
  let s' := (s.modTime fun t =>
    { t.clearExchange with
      role := .source
      correction := clampRate t.settings.trim
      integrator := 0
      queryAt := none
      holdoverSince := none }).setTimingState .source
  let s' := s'.modTime fun t => { t with heldRate := false }
  let s' := s'.modSelector fun x => { x with upstream := none }
  if s.selector.upstream.isSome then s'.raise .upstream else s'

/-- The role becomes FOLLOW (R97, R131). A trim in the same SET TIMING is stored and does not become C: the hub is no longer
SOURCE when it acts, so I takes the C it had (the model's choice between R96 and R97, log entry 29). -/
def State.becomeFollower (s : State) : State :=
  (s.modTime fun t =>
    { t with
      role := .follow
      integrator := clampRate t.correction
      heldRate := false
      queryAt := some (s.now + 2 ^ t.settings.interval) }).setTimingState .free

/-- The holdover timer has reached the holdover limit (R99). -/
def State.holdoverOver (s : State) : Bool :=
  match s.time.holdoverSince with
  | some t => decide (s.time.settings.holdover * Config.ticks1s ≤ s.now - t)
  | none => false

/-- A SET TIMING that keeps the role (R96, R99): a trim acts at once in SOURCE; a limit lowered to or below the elapsed time
ends a holdover. -/
def State.keepRole (s : State) : State :=
  match s.time.role with
  | .source => s.modTime fun t => { t with correction := clampRate t.settings.trim, integrator := 0 }
  | .follow => if s.time.state = .holdover ∧ s.holdoverOver then s.endHoldover else s

/-- The settings are written and the role acts (R113, R114, R97). -/
def State.setTiming (s : State) (x : TimingSettings) (role : Role) : State :=
  let s' := s.modTime fun t => { t with settings := x }
  match s.time.role, role with
  | .follow, .source => s'.becomeSource
  | .source, .follow => s'.becomeFollower
  | .follow, .follow | .source, .source => s'.keepRole

/-- The work of a SET TIMING (R113, R131): the settings and the role act, then the selector evaluates. From SOURCE to FOLLOW the
HELLOs are called for before it evaluates, with rank 15, and the event makes no second call (R122; log entry 33). -/
def State.setTimingWork (s : State) (x : TimingSettings) (role : Role) : Work :=
  let w := Work.of (s.setTiming x role)
  match s.time.role, role with
  | .source, .follow => (w.announce s).calls
  | .follow, .source | .follow, .follow | .source, .source => w.calls

/-- SET TIMING carried out (R113). -/
def setTimingAct (s : State) (r : Request) : Served :=
  match roleOf? (r.op 0) with
  | none => .refuse s .range
  | some role => .done (s.setTimingWork r.timing role)

/-- SET_TIMING (R113, R114, R96, R97, R99, R131). -/
def execSetTiming (s : State) : Host.Outcome State Fault Refusal := s.serve .setTiming setTimingAct

/-- Whole seconds of holdover, 0 unless the state is HOLDOVER (R115). -/
def State.holdoverElapsed (s : State) : Nat :=
  match s.time.state, s.time.holdoverSince with
  | .holdover, some t => (s.now - t) / Config.ticks1s
  | _, _ => 0

/-- The mean delay as a result (R115): all ones on an empty history, limited to 2^32 − 2. -/
def meanWord (l : List Int) : Word :=
  if l = [] then absentWord else intWord (min (historyMean l) (2 ^ 32 - 2))

/-- The sixteen results of part STATUS (R115). -/
def State.timingStatus (s : State) : List Word :=
  [timingStateWord s.time.state, boolWord s.time.heldRate, s.quality.code.setWidth 32, s.rank.setWidth 32,
   optWord cableWord s.selector.upstream] ++ stampWords s.ns ++
  [intWord s.time.correction, intWord s.time.integrator, natWord s.time.history.length, meanWord s.time.history,
   boolWord s.time.lastOffset.isSome, intWord (limit32 (s.time.lastOffset.getD 0)), natWord s.time.lockRun,
   natWord s.time.missedRun, natWord s.holdoverElapsed]

/-- The eight results of part SETTINGS (R115). -/
def State.timingSettings (s : State) : List Word :=
  let x := s.time.settings
  [roleWord s.time.role, intWord x.trim, natWord x.interval, natWord x.kp, natWord x.ki, natWord x.step, natWord x.window,
   natWord x.holdover]

/-- READ TIMING carried out (R115). -/
def readTimingAct (s : State) (r : Request) : Served :=
  if r.op 0 = 0#32 then .done (Work.of s) s.timingStatus
  else if r.op 0 = 1#32 then .done (Work.of s) s.timingSettings
  else .refuse s .range

/-- READ_TIMING (R115). -/
def execReadTiming (s : State) : Host.Outcome State Fault Refusal := s.serve .readTiming readTimingAct

/-- SET TIME carried out (R116): a step to the given time, fraction 0, in SOURCE only. -/
def setTimeAct (s : State) (r : Request) : Served :=
  match stampOf? (r.op 0) (r.op 1) with
  | none => .refuse s .range
  | some t =>
    if s.time.state = .source then .done (Work.of (s.stepTo (t ++ 0#24)))
    else .refuse s .state

/-- SET_TIME (R116). -/
def execSetTime (s : State) : Host.Outcome State Fault Refusal := s.serve .setTime setTimeAct

/-! ### Notices -/

/-- SET REPORT carried out (R186, R54). The NOTICE it may call for is formed at the event's end (R184). -/
def setReportAct (s : State) (r : Request) : Served :=
  match finOf? 32 (r.op 0), flagSetOf? (r.op 1), watermarkOf? (r.op 2) with
  | some report, some mask, some watermark =>
    .done (Work.of ((s.modNotices fun n => { n with report := report, mask := mask }).modPool
      fun p => { p with watermark := watermark }))
  | _, _, _ => .refuse s .range

/-- SET_REPORT (R186). -/
def execSetReport (s : State) : Host.Outcome State Fault Refusal := s.serve .setReport setReportAct

/-- The five results of READ NOTICES (R187). -/
def State.noticeResults (s : State) : List Word :=
  [s.notices.flags.setWidth 32, s.notices.mask.setWidth 32, frameWord s.notices.report, natWord s.pool.watermark,
   natWord s.pool.freeCount]

/-- READ NOTICES carried out (R187). -/
def readNoticesAct (s : State) (_r : Request) : Served := .done (Work.of s) s.noticeResults

/-- READ_NOTICES (R187). -/
def execReadNotices (s : State) : Host.Outcome State Fault Refusal := s.serve .readNotices readNoticesAct

/-- CLEAR NOTICES carried out (R188). -/
def clearNoticesAct (s : State) (r : Request) : Served :=
  match flagSetOf? (r.op 0) with
  | some x => .done (Work.of (s.modNotices fun n => { n with flags := n.flags &&& ~~~x }))
  | none => .refuse s .range

/-- CLEAR_NOTICES (R188). -/
def execClearNotices (s : State) : Host.Outcome State Fault Refusal := s.serve .clearNotices clearNoticesAct

/-! ### Counters -/

/-- A counter group (R190). -/
inductive Group where
  | link (p : Port)
  | traffic (p : Port)
  | stream (n : StreamNo)
  | timing
  | trigger
  | control
deriving DecidableEq, Repr

/-- The group that a group kind and an index name; none is refused (R190). -/
def groupOf? (kind index : Word) : Option Group :=
  match kind.toNat with
  | 0 => (portOf? index).map .link
  | 1 => (portOf? index).map .traffic
  | 2 => (finOf? 64 index).map .stream
  | 3 => some .timing
  | 4 => some .trigger
  | 5 => some .control
  | _ => none

/-- The counters of a group, in the order of R190. -/
def Bank.group (b : Bank) : Group → List Word
  | .link p => (b.link.get p).toList
  | .traffic p => (b.traffic.get p).toList
  | .stream n => b.stream[n].toList
  | .timing => b.timing.toList
  | .trigger => b.trigger.toList
  | .control => b.control.toList

/-- Every counter of a group is set to 0 (R191). -/
def Bank.clear (b : Bank) : Group → Bank
  | .link p => { b with link := b.link.set p (Vector.replicate 9 0#32) }
  | .traffic p => { b with traffic := b.traffic.set p (Vector.replicate 8 0#32) }
  | .stream n => { b with stream := b.stream.set n (Vector.replicate 10 0#32) }
  | .timing => { b with timing := Vector.replicate 9 0#32 }
  | .trigger => { b with trigger := Vector.replicate 15 0#32 }
  | .control => { b with control := Vector.replicate 14 0#32 }

/-- READ COUNTERS carried out (R190). -/
def readCountersAct (s : State) (r : Request) : Served :=
  match groupOf? (r.op 0) (r.op 1) with
  | some g => .done (Work.of s) (s.counters.group g)
  | none => .refuse s .range

/-- READ_COUNTERS (R190). -/
def execReadCounters (s : State) : Host.Outcome State Fault Refusal := s.serve .readCounters readCountersAct

/-- CLEAR COUNTERS carried out (R191). -/
def clearCountersAct (s : State) (r : Request) : Served :=
  match groupOf? (r.op 0) (r.op 1) with
  | some g => .done (Work.of { s with counters := s.counters.clear g })
  | none => .refuse s .range

/-- CLEAR_COUNTERS (R191). -/
def execClearCounters (s : State) : Host.Outcome State Fault Refusal := s.serve .clearCounters clearCountersAct

end Sys2Proof.Machine
end

