-- ==== Sys2Proof/Machine/Clock.lean ====
section
/-! DEFINITION. What the local oscillator does to the hub when no command waits: one tick (R93), and which row of the table
a timer, a counter or the request queue has made due. The order among events that are due together is a DESIGN CHOICE (log
entry 8): the spec leaves it open, and gives the outcome of either order where it matters. -/

namespace Sys2Proof.Machine

/-! ### The tick -/

/-- One tick: what its stamps took is recorded, rack time advances by its increment (R93), and every timer with it; the stamps
of the new tick take RT_ns as it now stands (R17), a step made in the old one with it (R109, R112); first words that are due
pass the transmit stamp points (R17). -/
def State.tick (s : State) : State :=
  let t := s.modTime RackTime.tick
  { t with
    now := s.now + 1
    stampNs := t.ns
    stamps := (s.stampNs :: s.stamps).take Config.longestTicks }.firstWords

/-! ### What is due -/

/-- A timer that runs out at `t` has run out by tick `now`. -/
def reached (t : Option Nat) (now : Nat) : Bool :=
  match t with
  | some t => decide (t ≤ now)
  | none => false

/-- The row of a request kind; none of the 29 is UNKNOWN_REQUEST_KIND (R162, R170). -/
def requestRow : Option ReqKind → Instr
  | none => .unknownRequestKind
  | some .readIdentity => .readIdentity
  | some .setFrameNumber => .setFrameNumber
  | some .hubRestart => .hubRestart
  | some .readPort => .readPort
  | some .setPort => .setPort
  | some .drainPort => .drainPort
  | some .restorePort => .restorePort
  | some .loopTest => .loopTest
  | some .writeStream => .writeStream
  | some .readStream => .readStream
  | some .clearStream => .clearStream
  | some .stageRoute => .stageRoute
  | some .writeFrameRoute => .writeFrameRoute
  | some .readFrameRoute => .readFrameRoute
  | some .writeTriggerMap => .writeTriggerMap
  | some .readTriggerMap => .readTriggerMap
  | some .setTriggerPin => .setTriggerPin
  | some .setTriggerInput => .setTriggerInput
  | some .originateTrigger => .originateTrigger
  | some .setCadence => .setCadence
  | some .readCadence => .readCadence
  | some .setTiming => .setTiming
  | some .readTiming => .readTiming
  | some .setTime => .setTime
  | some .setReport => .setReport
  | some .readNotices => .readNotices
  | some .clearNotices => .clearNotices
  | some .readCounters => .readCounters
  | some .clearCounters => .clearCounters

/-- The row of the request at the head of the queue, unless a pending restart stalls the control unit (R162, R169). -/
def State.headRow (s : State) : List Instr :=
  match s.ctl.restartPending, s.ctl.queue with
  | false, r :: _ => [requestRow (ReqKind.ofCode? r.msg.kind)]
  | _, _ => []

/-- The rows whose event is due among those of the list. -/
def dueAmong (l : List (Bool × Instr)) : List Instr := l.filterMap fun x => if x.1 then some x.2 else none

/-- The transmission in progress on a port has sent its last word (R61, R40). -/
def State.dueTransmission (s : State) (p : Port) : List Instr :=
  match (s.port p).tx with
  | some t =>
    if t.endsAt ≤ s.now then
      match t.source, p with
      | .parking, .cable c => [.parkingHelloEnds c]
      | .parking, .f => []
      | .maintenance, _ | .timing, _ | .trigger, _ | .control _, _ | .sample _, _ => [.transmissionEnds p]
    else []
  | none => []

/-- What is due at a cable port (R24, R26, R30, R34, R38, R39, R43, R122, R128). -/
def State.dueAtCable (s : State) (c : Cable) : List Instr :=
  let u := s.cable c
  let serving := u.state == .active || u.state == .draining
  dueAmong
    [(s.drainCanClose c, .drainCloses c),
     (u.state == .draining && !s.drainClosed c && reached (u.drain.bind (·.timeout)) s.now, .drainTimeout c),
     (reached (u.loop.bind fun l => l.sent.bind fun _ => l.timeout) s.now, .loopTestTimeout c),
     (u.state == .training && reached u.attemptEnds s.now, .trainingAttemptTimeout c),
     (u.state == .training && reached (u.outstanding.map (·.until_)) s.now, .echoWaitExpiry c),
     (u.state == .greeting && reached u.greetEnds s.now, .greetingWaitExpiry c),
     (u.state == .greeting && reached u.repeatAt s.now, .helloRepeat c),
     (serving && !u.helloDue && reached u.refreshAt s.now, .helloRefresh c),
     (reached u.cleanRun s.now, .cleanRunTimerRunsOut c),
     (decide (u.decayAt ≤ s.now), .decayStep c),
     (reached (s.selector.mute.get c) s.now, .muteTimerRunsOut c)]

/-- What is due at the trigger unit and the cadence units (R144, R152). -/
def State.duePulses (s : State) : List Instr :=
  (List.finRange 4).filterMap (fun i => if reached s.trig.pins[i].activeUntil s.now then some (.pinCountRunsOut i) else none) ++
    (List.finRange 2).filterMap (fun k => if reached s.cadence[k].highUntil s.now then some (.cadencePulseEnds k) else none) ++
    dueAmong [(s.trig.schedule.any (SchedEntry.due s.ns), .firing)] ++
    (List.finRange 2).filterMap (fun k => if (s.cadence[k].edgeDue s.ns).isSome then some (.cadenceEdgeTaken k) else none)

/-- What is due at the rack time unit (R99, R100, R104). -/
def State.dueAtTime (s : State) : List Instr :=
  dueAmong
    [(s.time.role == .follow && reached s.time.queryAt s.now, .queryTimerExpiry),
     (reached (s.time.outstanding.map (·.waitEnds)) s.now, .answerWaitEnds),
     (s.time.state == .holdover && s.holdoverOver, .holdoverLimitReached)]

/-- A pending restart whose reply is no longer on F (R169). -/
def State.dueRestart (s : State) : List Instr :=
  dueAmong [(s.ctl.restartPending && !s.restartReplySending && !(s.restartReplyQueued && s.fActive), .restartTakesEffect)]

/-- The rows that are due, first to be taken first. -/
def State.due (s : State) : List Instr :=
  s.dueRestart ++ s.headRow ++ Port.all.flatMap s.dueTransmission ++ Cable.all.flatMap s.dueAtCable ++ s.duePulses ++
    s.dueAtTime

/-- The row that is due next, if any. -/
def State.nextDue (s : State) : Option Instr := s.due.head?

/-! ### What the hub shows on its lines -/

/-- What a port's transmitter sends at this moment; of a message the model names no single word (R1, R3, R20, R40). -/
inductive LineOut where
  /-- No words. -/
  | quiet
  | align
  | idle
  | abort
  | message (m : LinkMsg)
deriving DecidableEq, Repr

/-- What a port sends when it owes no word and no message's words leave (R1, R20, R40, R45): ALIGN in TRAINING,
IDLE in the other states that send words, and in PARKED IDLE until its parking HELLO's first word. -/
def State.restingWord (s : State) : Port → LineOut
  | .f => if s.fActive then .idle else .quiet
  | .cable c =>
    match (s.cable c).state with
    | .training => .align
    | .greeting | .active | .draining => .idle
    | .parked => if (s.port (.cable c)).tx.isSome then .idle else .quiet
    | .dark | .quarantined => .quiet

/-- The last word owed is an ABORT. -/
def PortUnit.abortOwed (u : PortUnit) : Bool :=
  match u.owed.getLast? with
  | some ⟨.abort, _, _⟩ => true
  | _ => false

/-- What leaves a port between two transmissions: the owed word whose time it is (R3), else what its state calls for. A cut
message's word and its ABORT leave in any state, the IDLE before that ABORT too; any other IDLE where the port sends words. -/
def State.owedWord (s : State) (p : Port) : LineOut :=
  match (s.port p).owed.find? fun x => decide (x.starts ≤ s.now ∧ s.now < x.ends) with
  | some ⟨.word m, _, _⟩ => .message m
  | some ⟨.abort, _, _⟩ => .abort
  | some ⟨.idle, _, _⟩ => if s.restingWord p = .quiet ∧ (s.port p).abortOwed = false then .quiet else .idle
  | none => s.restingWord p

/-- What the transmitter of a port sends (R1, R3, R20, R40, R45). -/
def State.lineOut (s : State) (p : Port) : LineOut :=
  match (s.port p).tx with
  | some t => if t.startsAt ≤ s.now then .message t.msg else s.owedWord p
  | none => s.owedWord p

end Sys2Proof.Machine
end

