-- ==== Sys2Proof/Machine/Dispatch.lean ====
section
/-! DEFINITION. One arm per command: the one direct call of its meaning. -/

namespace Sys2Proof.Machine

def exec (i : Instr) (s : State) : Host.Outcome State Fault Refusal :=
  match i with
  | .pinReset pins => Sys2Proof.Machine.execPinReset pins s
  | .hubRestart => Sys2Proof.Machine.execHubRestart s
  | .restartTakesEffect => Sys2Proof.Machine.execRestartTakesEffect s
  | .detectEdge c present => Sys2Proof.Machine.execDetectEdge c present s
  | .fEntersActive => Sys2Proof.Machine.execFEntersActive s
  | .fEntersDown => Sys2Proof.Machine.execFEntersDown s
  | .receiverAligned c => Sys2Proof.Machine.execReceiverAligned c s
  | .lossOfAlignment p => Sys2Proof.Machine.execLossOfAlignment p s
  | .retrainingSeen c => Sys2Proof.Machine.execRetrainingSeen c s
  | .headingFault p => Sys2Proof.Machine.execHeadingFault p s
  | .checkFailure p cause => Sys2Proof.Machine.execCheckFailure p cause s
  | .addressCodeFault p => Sys2Proof.Machine.execAddressCodeFault p s
  | .abortedMessage p => Sys2Proof.Machine.execAbortedMessage p s
  | .decayStep c => Sys2Proof.Machine.execDecayStep c s
  | .trainingAttemptTimeout c => Sys2Proof.Machine.execTrainingAttemptTimeout c s
  | .echoWaitExpiry c => Sys2Proof.Machine.execEchoWaitExpiry c s
  | .greetingWaitExpiry c => Sys2Proof.Machine.execGreetingWaitExpiry c s
  | .helloRepeat c => Sys2Proof.Machine.execHelloRepeat c s
  | .helloRefresh c => Sys2Proof.Machine.execHelloRefresh c s
  | .cleanRunTimerRunsOut c => Sys2Proof.Machine.execCleanRunTimerRunsOut c s
  | .transmissionEnds p => Sys2Proof.Machine.execTransmissionEnds p s
  | .parkingHelloEnds c => Sys2Proof.Machine.execParkingHelloEnds c s
  | .sampleBlock p stamp m => Sys2Proof.Machine.execSampleBlock p stamp m s
  | .controlRequest p m => Sys2Proof.Machine.execControlRequest p m s
  | .controlReply p m => Sys2Proof.Machine.execControlReply p m s
  | .notice p m => Sys2Proof.Machine.execNotice p m s
  | .triggerNotice p m => Sys2Proof.Machine.execTriggerNotice p m s
  | .delayQuery p stamp number => Sys2Proof.Machine.execDelayQuery p stamp number s
  | .timeAnswer p stamp m => Sys2Proof.Machine.execTimeAnswer p stamp m s
  | .hello p m => Sys2Proof.Machine.execHello p m s
  | .echo p stamp m => Sys2Proof.Machine.execEcho p stamp m s
  | .queryTimerExpiry => Sys2Proof.Machine.execQueryTimerExpiry s
  | .answerWaitEnds => Sys2Proof.Machine.execAnswerWaitEnds s
  | .holdoverLimitReached => Sys2Proof.Machine.execHoldoverLimitReached s
  | .muteTimerRunsOut c => Sys2Proof.Machine.execMuteTimerRunsOut c s
  | .drainCloses c => Sys2Proof.Machine.execDrainCloses c s
  | .drainTimeout c => Sys2Proof.Machine.execDrainTimeout c s
  | .loopTestReturn c stamp number => Sys2Proof.Machine.execLoopTestReturn c stamp number s
  | .loopTestTimeout c => Sys2Proof.Machine.execLoopTestTimeout c s
  | .inputEdge n level => Sys2Proof.Machine.execInputEdge n level s
  | .firing => Sys2Proof.Machine.execFiring s
  | .pinCountRunsOut n => Sys2Proof.Machine.execPinCountRunsOut n s
  | .cadenceEdgeTaken k => Sys2Proof.Machine.execCadenceEdgeTaken k s
  | .cadencePulseEnds k => Sys2Proof.Machine.execCadencePulseEnds k s
  | .unknownRequestKind => Sys2Proof.Machine.execUnknownRequestKind s
  | .readIdentity => Sys2Proof.Machine.execReadIdentity s
  | .setFrameNumber => Sys2Proof.Machine.execSetFrameNumber s
  | .readPort => Sys2Proof.Machine.execReadPort s
  | .setPort => Sys2Proof.Machine.execSetPort s
  | .drainPort => Sys2Proof.Machine.execDrainPort s
  | .restorePort => Sys2Proof.Machine.execRestorePort s
  | .loopTest => Sys2Proof.Machine.execLoopTest s
  | .writeStream => Sys2Proof.Machine.execWriteStream s
  | .readStream => Sys2Proof.Machine.execReadStream s
  | .clearStream => Sys2Proof.Machine.execClearStream s
  | .stageRoute => Sys2Proof.Machine.execStageRoute s
  | .writeFrameRoute => Sys2Proof.Machine.execWriteFrameRoute s
  | .readFrameRoute => Sys2Proof.Machine.execReadFrameRoute s
  | .writeTriggerMap => Sys2Proof.Machine.execWriteTriggerMap s
  | .readTriggerMap => Sys2Proof.Machine.execReadTriggerMap s
  | .setTriggerPin => Sys2Proof.Machine.execSetTriggerPin s
  | .setTriggerInput => Sys2Proof.Machine.execSetTriggerInput s
  | .originateTrigger => Sys2Proof.Machine.execOriginateTrigger s
  | .setCadence => Sys2Proof.Machine.execSetCadence s
  | .readCadence => Sys2Proof.Machine.execReadCadence s
  | .setTiming => Sys2Proof.Machine.execSetTiming s
  | .readTiming => Sys2Proof.Machine.execReadTiming s
  | .setTime => Sys2Proof.Machine.execSetTime s
  | .setReport => Sys2Proof.Machine.execSetReport s
  | .readNotices => Sys2Proof.Machine.execReadNotices s
  | .clearNotices => Sys2Proof.Machine.execClearNotices s
  | .readCounters => Sys2Proof.Machine.execReadCounters s
  | .clearCounters => Sys2Proof.Machine.execClearCounters s
  | .huntEnds p => Sys2Proof.Machine.execHuntEnds p s

end Sys2Proof.Machine
end

