-- ==== Sys2Proof/Machine/Step.lean ====
section
/-! DEFINITION. One step: the command at the front of the queue; with none waiting, a report that stands out, the event that is
due, or one tick (log entries 8 and 32). -/

namespace Sys2Proof.Machine

/-- With no command waiting, the selector takes a report of a loss that still stands out (R129), or the hub takes the event
that is due, or one tick passes. -/
def State.idle (s : State) : Host.Outcome State Fault Refusal :=
  match s.selector.lossReport, s.nextDue with
  | some _, _ => s.endsIn (Work.of s).calls
  | none, some i => exec i s
  | none, none => .next s.tick

/-- One step of the machine. -/
def step (s : State) : Host.Outcome State Fault Refusal :=
  match s.pending with
  | [] => s.idle
  | i :: rest => exec i { s with pending := rest }

/-- The state with the command that a table word spells at the front of its queue; no word spells one. -/
def State.withFetchWord (s : State) (nbits w : Nat) : State :=
  match decodeTableWord nbits w with
  | some i => { s with pending := i :: s.pending }
  | none => s

end Sys2Proof.Machine
end

