-- ==== Sys2Proof/Safety.lean ====
section
/-! DEFINITION. What a sound state of the hub is: the laws the spec says a block keeps, and the ranges and couplings its tables
give. Each law is about one state; the statements say that every step keeps it. -/

namespace Sys2Proof.Machine

/-! ### Rack time and the selector -/

/-- R94: C and I each lie within −26,843 … +26,843. -/
abbrev State.RateLaw (s : State) : Prop :=
  (-Config.rateMax ≤ s.time.correction ∧ s.time.correction ≤ Config.rateMax) ∧
    (-Config.rateMax ≤ s.time.integrator ∧ s.time.integrator ≤ Config.rateMax)

/-- The settings of SET TIMING lie within the ranges of R113. -/
abbrev State.SettingsLaw (s : State) : Prop :=
  let x := s.time.settings
  (-Config.rateMax ≤ x.trim ∧ x.trim ≤ Config.rateMax) ∧ (20 ≤ x.interval ∧ x.interval ≤ 27) ∧ x.kp ≤ 7 ∧
    (2 ≤ x.ki ∧ x.ki ≤ 12) ∧ (1000 ≤ x.step ∧ x.step ≤ 1000000) ∧ (10 ≤ x.window ∧ x.window ≤ 10000) ∧
    x.window ≤ x.step ∧ (1 ≤ x.holdover ∧ x.holdover ≤ 255)

/-- The timing state is ACQUIRING or LOCKED. -/
abbrev TimingState.following (t : TimingState) : Prop := t = .acquiring ∨ t = .locked

/-- R95, R127, R120: the state is SOURCE exactly in role SOURCE; an upstream port exists exactly in ACQUIRING and LOCKED; and
an upstream port passes the keep test of R125. -/
abbrev State.UpstreamLaw (s : State) : Prop :=
  (s.time.role = .source ↔ s.time.state = .source) ∧
    (s.selector.upstream.isSome ↔ s.time.state.following) ∧
    ∀ c ∈ Cable.all, s.selector.upstream = some c → s.keeps c = true

/-- The delay history holds at most eight samples (R107), the missed run is at most 2 and the outlier run at most 3 (R104,
R107); the lock run is at most 3 in ACQUIRING and at most 1 in LOCKED (R111). -/
abbrev State.ExchangeLaw (s : State) : Prop :=
  s.time.history.length ≤ Config.historyCap ∧ s.time.missedRun ≤ 2 ∧ s.time.outlierRun ≤ 3 ∧
    (s.time.state = .acquiring → s.time.lockRun ≤ 3) ∧ (s.time.state = .locked → s.time.lockRun ≤ 1)

/-- R96: while the role is SOURCE, the state is SOURCE, C equals the trim setting and I is 0; the query timer is stopped, no query
is outstanding, the delay history is empty and the holdover timer is stopped; and the selector holds no upstream. -/
abbrev State.SourceLaw (s : State) : Prop :=
  s.time.role = .source → s.time.state = .source ∧ s.time.correction = s.time.settings.trim ∧ s.time.integrator = 0 ∧
    s.time.queryAt = none ∧ s.time.outstanding = none ∧ s.time.history = [] ∧ s.time.holdoverSince = none ∧
    s.selector.upstream = none

/-! ### Triggers and cadences -/

/-- R139: the recent-trigger list holds at most 16 entries and never two with the same origin and trigger sequence. -/
abbrev State.RecentLaw (s : State) : Prop := s.trig.recent.length ≤ Config.recentCap ∧ s.trig.recent.Nodup

/-- R142: the trigger schedule holds at most 8 entries. -/
abbrev State.ScheduleLaw (s : State) : Prop := s.trig.schedule.length ≤ Config.scheduleCap

/-- R142: the schedule stands in non-decreasing order of fire time, order being read from signed differences modulo 2^48. -/
abbrev State.OrderLaw (s : State) : Prop := s.trig.schedule.Pairwise fun a b => stampDiff a.fire b.fire ≤ 0

/-- The fire times of the schedule lie within 2^46 ns of one another: only among such times does the order of R142, read modulo
2^48, hang together. -/
abbrev State.SpreadLaw (s : State) : Prop :=
  ∀ a ∈ s.trig.schedule, ∀ b ∈ s.trig.schedule, -2 ^ 46 < stampDiff a.fire b.fire ∧ stampDiff a.fire b.fire < 2 ^ 46

/-- R148: the width of every pin is a multiple of 8 in 8..524,280. -/
abbrev State.PinLaw (s : State) : Prop :=
  ∀ i : Fin 4, 8 ≤ s.trig.pins[i].width ∧ s.trig.pins[i].width ≤ 524280 ∧ s.trig.pins[i].width % 8 = 0

/-- A set of cadence settings lies within the ranges of R151. -/
abbrev CadenceSettings.InRange (c : CadenceSettings) : Prop :=
  (1000 ≤ c.period ∧ c.period ≤ 1000000000) ∧ c.phase < c.period ∧ (8 ≤ c.width ∧ c.width ≤ c.period - 8)

/-- R151: the settings of a cadence unit, pending ones too, lie within their ranges, and it has a next edge exactly while its
mode is SINGLE or CONTINUOUS. -/
abbrev State.CadenceLaw (s : State) : Prop :=
  ∀ k : Fin 2, s.cadence[k].settings.InRange ∧ (∀ c ∈ s.cadence[k].pending, c.InRange) ∧
    (s.cadence[k].next.isSome ↔ s.cadence[k].settings.mode ≠ .stopped)

/-! ### Ports and queues -/

/-- A cable port is in service: ACTIVE or DRAINING (R20). -/
abbrev CableUnit.InService (u : CableUnit) : Prop := u.state = .active ∨ u.state = .draining

/-- R30: the error budget is at most 8. -/
abbrev State.BudgetLaw (s : State) : Prop := ∀ c ∈ Cable.all, (s.cable c).budget ≤ Config.budgetMax

/-- R20, R27, R35: a neighbour entry is present exactly in ACTIVE and DRAINING; a drain is pending exactly in DRAINING; a loop
test is pending in ACTIVE only. -/
abbrev State.ServiceLaw (s : State) : Prop :=
  ∀ c ∈ Cable.all, ((s.cable c).neighbour.isSome ↔ (s.cable c).InService) ∧
    ((s.cable c).drain.isSome ↔ (s.cable c).state = .draining) ∧
    ((s.cable c).loop.isSome → (s.cable c).state = .active)

/-- R55, R59: every output queue is within its capacity, and the bulk pass count within 0..7. -/
abbrev State.CapacityLaw (s : State) : Prop :=
  ∀ p ∈ Port.all, (s.port p).queues.timing.length ≤ Config.timingCap ∧
    (s.port p).queues.trigger.length ≤ Config.triggerCap ∧ (s.port p).queues.control.length ≤ Config.controlCap ∧
    (s.port p).queues.urgent.length + (s.port p).queues.bulk.length ≤ Config.sampleCap ∧
    (s.port p).bulkPass ≤ Config.bulkPassMax

/-- R56: a port that is in neither ACTIVE nor DRAINING has all five output queues empty; and R38: while a port is DRAINING
and its drain has closed, its sample and trigger queues are empty. -/
abbrev State.EmptyQueueLaw (s : State) : Prop :=
  (∀ p ∈ Port.all, s.inService p = false → (s.port p).queues = Queues.empty) ∧
    ∀ c ∈ Cable.all, (s.cable c).state = .draining → s.drainClosed c = true →
      (s.port (.cable c)).queues.sampleAndTrigger = 0

/-- What may be in transmission on a port by its state: nothing on a port that sends no words (R1), link maintenance in TRAINING
and GREETING (R58), the parking HELLO in PARKED and nowhere else (R40), queued messages alone on F. -/
def State.mayTransmit (s : State) (p : Port) (src : TxSource) : Bool :=
  match p with
  | .f => s.fActive && src.queued
  | .cable c =>
    match (s.cable c).state with
    | .dark | .quarantined => false
    | .training | .greeting => src == .maintenance
    | .active | .draining => src != .parking
    | .parked => src == .parking

/-- R1, R40, R58, R62: what is in transmission on a port is what its state allows. -/
abbrev State.TransmitLaw (s : State) : Prop :=
  ∀ p ∈ Port.all, ∀ t ∈ (s.port p).tx, s.mayTransmit p t.source = true

/-- R17: a transmission has its stamp exactly from the tick on which its first word passes the transmit stamp point. -/
abbrev State.StampLaw (s : State) : Prop :=
  ∀ p ∈ Port.all, ∀ t ∈ (s.port p).tx, (t.stamp = none ↔ s.now < t.startsAt)

/-- R58: while a port's arbiter makes choices and no transmission is in progress on the port, nothing waits there. -/
abbrev State.BusyLaw (s : State) : Prop :=
  ∀ p ∈ Port.all, s.arbiterRuns p = true → (s.port p).tx = none → s.choice p = none

/-! ### The block buffer pool -/

/-- How often a slot is named by the output queue entries of a port, and by its transmission in progress. -/
def PortUnit.names (u : PortUnit) (i : Fin 96) : Nat :=
  u.queues.urgent.count i + u.queues.bulk.count i +
    match u.tx with
    | some t => if t.source = .sample i then 1 else 0
    | none => 0

/-- How often a slot is named by the queue entries and the transmissions of the hub (R51). -/
def State.references (s : State) (i : Fin 96) : Nat := (Port.all.map fun p => (s.port p).names i).sum

/-- R49, R50, R51: the free list holds exactly the free slots, each once; the reference count of a holding slot is the number
of queue entries and transmissions that name it, at least one; and nothing names a free slot. -/
abbrev State.ConservationLaw (s : State) : Prop :=
  s.pool.free.Nodup ∧
    ∀ i : Fin 96, match s.pool.slots[i] with
      | none => i ∈ s.pool.free ∧ s.references i = 0
      | some h => i ∉ s.pool.free ∧ h.refs = s.references i ∧ 1 ≤ h.refs

/-- R53: the held count of each stream number is the number of holding slots of that number. -/
abbrev State.HeldLaw (s : State) : Prop :=
  ∀ n : StreamNo, s.held n = (s.pool.slots.toList.filter fun h => h.map (·.stream) == some n).length

/-- R195: while the frame number is unassigned, the pool holds no sample block and the schedule no entry. -/
abbrev State.UnassignedLaw (s : State) : Prop :=
  s.frame = unassigned → (∀ i : Fin 96, s.pool.slots[i] = none) ∧ s.trig.schedule = []

/-! ### Tables -/

/-- R67, R68, R71: a stream entry has a frame 0..30 as owner, a legal route, a length in 1..64 and a quota in 1..32. -/
abbrev StreamEntry.Sound (e : StreamEntry) : Prop :=
  e.owner ≠ unassigned ∧ e.route.legal e.ingress = true ∧ (1 ≤ e.length ∧ e.length ≤ 64) ∧ (1 ≤ e.quota ∧ e.quota ≤ 32)

/-- R67, R68, R77: every valid stream entry is sound, and so is the route that is pending for it. -/
abbrev State.StreamLaw (s : State) : Prop :=
  ∀ n : StreamNo, (s.entry n).valid = true →
    (s.entry n).Sound ∧ ∀ r ∈ (s.run n).pendingRoute, r.route.legal (s.entry n).ingress = true

/-- R88: for every valid stream entry, the number of slots held by that stream is no greater than its quota. -/
abbrev State.QuotaLaw (s : State) : Prop := ∀ n : StreamNo, (s.entry n).valid = true → s.held n ≤ (s.entry n).quota

/-- R171: the alternate of a frame route is present only when the primary is, and differs from it. -/
abbrev State.RouteLaw (s : State) : Prop :=
  ∀ f : Frame, (s.ctl.routes[f].alternate.isSome → s.ctl.routes[f].primary.isSome ∧
    s.ctl.routes[f].alternate ≠ s.ctl.routes[f].primary)

/-- R161, R54: the request queue holds at most 8 requests; the watermark is 8, 16, 24 or 32. -/
abbrev State.ControlLaw (s : State) : Prop :=
  s.ctl.queue.length ≤ Config.requestCap ∧ s.pool.watermark ∈ [8, 16, 24, 32]

/-! ### Frames -/

/-- A cable-port unit after link maintenance has been called for or started: the rest of it stands. -/
structure CableUnit.Quiet (u v : CableUnit) : Prop where
  rest : v = { u with returnDue := v.returnDue, echoDue := v.echoDue, helloDue := v.helloDue, refreshAt := v.refreshAt,
                      loop := v.loop }
  loop : v.loop.isSome = u.loop.isSome

/-- `t` differs from `s` at most in what the ports send (their queues, transmissions and waiting link maintenance, and what the
start of a query or of a loop test's ECHO records) and in counters. -/
structure State.Quiet (s t : State) : Prop where
  straps : t.straps = s.straps
  frame : t.frame = s.frame
  fActive : t.fActive = s.fActive
  pool : t.pool = s.pool
  streams : t.streams = s.streams
  selector : t.selector = s.selector
  trig : t.trig = s.trig
  cadence : t.cadence = s.cadence
  ctl : t.ctl = s.ctl
  notices : t.notices = s.notices
  now : t.now = s.now
  stampNs : t.stampNs = s.stampNs
  stamps : t.stamps = s.stamps
  pending : t.pending = s.pending
  time : t.time = { s.time with outstanding := t.time.outstanding }
  cable : ∀ c, (s.cable c).Quiet (t.cable c)
  aligned : ∀ p, (t.port p).aligned = (s.port p).aligned
  rx : ∀ p, (t.port p).rx = (s.port p).rx

/-- An event that calls on no evaluation ends, before its replies, with a NOTICE when one is due (R184). -/
def State.noticed (before s : State) : State := if State.noticeDue before s then s.sendNotice else s

/-! ### What an event leaves at a port -/

/-- A counter of `t` is that of `s` plus `n`, saturating (R189). -/
abbrev State.Counts (s t : State) (i : CounterId) (n : Nat) : Prop :=
  (t.counters.get i).toNat = min ((s.counters.get i).toNat + n) (2 ^ 32 - 1)

/-- A flag is pending (R182). -/
abbrev State.Pending (s : State) (f : Flag) : Prop := s.notices.flags.getLsbD f.bit = true

/-- The third miss in a row on cable port `c`, counted in `s`, leads to `t` (R104, R128, R129): the port is muted for 1 s and the
selector evaluates; or, where the loss is overtaken, its report is left to be taken after the next change. -/
structure State.LostBy (s t : State) (c : Cable) : Prop where
  atOnce : Config.lossOvertaken s.selector.losses = false →
    ((s.modSelector fun x =>
      { x with losses := x.losses + 1, mute := x.mute.set c (some (s.now + 125000000)) }).select).Quiet t
  overtaken : Config.lossOvertaken s.selector.losses = true →
    t = s.modSelector fun x => { x with losses := x.losses + 1, lossReport := some c }

/-- One when a cut at tick `now` cuts a queued message: one whose check word has not left (R62, R3). -/
def PortUnit.cutQueued (u : PortUnit) (now : Nat) : Nat :=
  match u.tx with
  | some t => if t.source.queued ∧ now < t.endsAt then 1 else 0
  | none => 0

/-- The transmission in progress on a port carries the message `m`, and comes from `src`. -/
abbrev State.Sends (s : State) (p : Port) (m : LinkMsg) (src : TxSource) : Prop :=
  ∃ x, (s.port p).tx = some x ∧ x.msg = m ∧ x.source = src

/-- The event that leads from `s` to `t` ends by forming the replies `l`, in order, and no others (R166, R168). -/
abbrev State.EndsWith (s t : State) (l : List ReplyDue) : Prop :=
  ∃ u, t = l.foldl State.sendReply u ∧
    ∀ k, k = .repliesIssued ∨ k = .repliesUndeliverable → u.counters.get (.control k) = s.counters.get (.control k)

/-- The CANCELLED replies that a cable port owes when it leaves service (R35, R43, R168): of its drain, with the count of the
sample and trigger messages removed and cut, before that of its loop test. -/
def State.cancelledReplies (s : State) (c : Cable) : List ReplyDue :=
  let q := (s.port (.cable c)).queues
  (match (s.cable c).drain with
    | some d => [⟨d.op.arrival, d.op.origin, d.op.tag, 0x12#8, .cancelled,
        [natWord (d.discards + (q.trigger.length + q.urgent.length + q.bulk.length + (s.port (.cable c)).cutCount s.now))]⟩]
    | none => []) ++
  (match (s.cable c).loop with
    | some l => [⟨l.op.arrival, l.op.origin, l.op.tag, 0x14#8, .cancelled, []⟩]
    | none => [])

/-- Cable port `c`, in service in `s`, has left service in `t` for a state other than PARKED (R35, R63, R56). -/
structure State.LeftService (s t : State) (c : Cable) : Prop where
  neighbour : (t.cable c).neighbour = none
  cleanRun : (t.cable c).cleanRun = none
  drain : (t.cable c).drain = none
  loop : (t.cable c).loop = none
  returnDue : (t.cable c).returnDue = none
  queues : (t.port (.cable c)).queues = Queues.empty
  bulkPass : (t.port (.cable c)).bulkPass = 0
  tx : (t.port (.cable c)).tx = none
  aborted : ∀ x, (s.port (.cable c)).tx = some x →
    (t.port (.cable c)).owed = x.afterCut (s.port (.cable c)).owed s.now
  flushed : s.Counts t (.traffic (.cable c) .flushed) (s.port (.cable c)).queues.total
  cut : s.Counts t (.traffic (.cable c) .cut) ((s.port (.cable c)).cutQueued s.now)

/-- Cable port `c` is in TRAINING in `t`, as on entering it at tick `now` (R20, R23, R24, R30). -/
structure State.Trains (t : State) (c : Cable) (now : Nat) : Prop where
  state : (t.cable c).state = .training
  budget : (t.cable c).budget = 0
  goodRun : (t.cable c).goodRun = 0
  outstanding : (t.cable c).outstanding = none
  attemptEnds : (t.cable c).attemptEnds = some (now + 250000)
  aligned : (t.port (.cable c)).aligned = false
  neighbour : (t.cable c).neighbour = none

/-- Every other cable port than `c` keeps its state, neighbour entry, suspect flag, error budget and pending operations. -/
abbrev State.OthersKept (s t : State) (c : Cable) : Prop :=
  ∀ d, d ≠ c → (t.cable d).state = (s.cable d).state ∧ (t.cable d).neighbour = (s.cable d).neighbour ∧
    (t.cable d).suspect = (s.cable d).suspect ∧ (t.cable d).budget = (s.cable d).budget ∧
    (t.cable d).drain = (s.cable d).drain ∧ (t.cable d).loop.isSome = (s.cable d).loop.isSome

/-- The event that leads from `s` to `t` is a fault of cable port `c` (R32, R33, R36). -/
structure State.Faulted (s t : State) (c : Cable) : Prop where
  counted : s.Counts t (.link (.cable c) .faults) 1
  suspect : (t.cable c).suspect = true
  raised : t.Pending .portState
  quarantined : (s.cable c).suspect = true → ∀ a, (s.cable c).lastActive = some a → s.now - a < 125000000 →
    (t.cable c).state = .quarantined ∧ (t.cable c).neighbour = none ∧ t.Pending .quarantine ∧
      s.Counts t (.link (.cable c) .quarantines) 1
  retrained : (s.cable c).suspect = false ∨ (∀ a, (s.cable c).lastActive = some a → 125000000 ≤ s.now - a) →
    t.Trains c s.now ∧ s.Counts t (.link (.cable c) .quarantines) 0
  service : (s.cable c).InService → s.LeftService t c
  replies : s.EndsWith t (if (s.cable c).InService then s.cancelledReplies c else [])
  others : s.OthersKept t c

/-- Cable port `c`, in DRAINING in `s`, has entered PARKED in `t` (R40): its queues are empty, its parking HELLO is in
transmission, its first word leaving at tick `start`, and its receiver does not listen. -/
structure State.ParksAt (s t : State) (c : Cable) (start : Nat) : Prop where
  state : (t.cable c).state = .parked
  neighbour : (t.cable c).neighbour = none
  drain : (t.cable c).drain = none
  cleanRun : (t.cable c).cleanRun = none
  aligned : (t.port (.cable c)).aligned = false
  queues : (t.port (.cable c)).queues = Queues.empty
  tx : (t.port (.cable c)).tx =
    some ⟨.hello (t.helloMsg true), .parking, start, start + 2 * ticksPerWord (s.cable c).rate,
      if start ≤ s.now then some s.stampNs else none⟩
  discards : s.Counts t (.traffic (.cable c) .parkDiscards)
    ((s.port (.cable c)).queues.timing.length + (s.port (.cable c)).queues.control.length)
  raised : t.Pending .portState
  others : s.OthersKept t c

/-! ### Firing -/

/-- The merged firings that a run of firing entries makes (R144): for each pin, every firing but the first of an inactive pin. -/
def State.merges (s : State) (fired : List SchedEntry) : Nat :=
  ((List.finRange 4).map fun i =>
    (fired.filter fun e => decide (e.target = .pin i)).length - if s.trig.pins[i].activeUntil.isSome then 0 else 1).sum

/-- The entries `fired` have fired between `s` and `t`, `late` of them as late firings (R144, R145, R90): they are counted, a late
one raises LATE-TRIGGER; a pin entry drives its pin active for its width in ticks, a gate entry opens the gates of every valid
stream with its line; every other pin and stream is as before. -/
structure State.Fired (s t : State) (fired : List SchedEntry) (late : Nat) : Prop where
  firings : s.Counts t (.trigger .firings) fired.length
  lateFirings : s.Counts t (.trigger .lateFirings) late
  raised : 0 < late → t.Pending .lateTrigger
  merged : s.Counts t (.trigger .mergedFirings) (s.merges fired)
  driven : ∀ i : Fin 4, (∃ e ∈ fired, e.target = .pin i) →
    t.trig.pins[i] = { s.trig.pins[i] with activeUntil := some (s.now + s.trig.pins[i].width / 8) }
  still : ∀ i : Fin 4, (∀ e ∈ fired, e.target ≠ .pin i) → t.trig.pins[i] = s.trig.pins[i]
  opened : ∀ n : StreamNo,
    (∃ e ∈ fired, e.target = .gates ∧ (s.entry n).valid = true ∧ (s.entry n).gateLine = some e.line) →
      t.run n = { s.run n with
        gateOpen := true
        remaining := if (s.entry n).gateCount = 0 then none else some (s.entry n).gateCount }
  kept : ∀ n : StreamNo,
    (∀ e ∈ fired, e.target = .gates → (s.entry n).valid = true → (s.entry n).gateLine ≠ some e.line) → t.run n = s.run n
  entries : ∀ n : StreamNo, t.entry n = s.entry n

/-! ### Messages -/

/-- The first word of a control message: heading pair, destination and origin code, tag, hop count, at the bits R19 gives. -/
structure ControlHeading (w : Word) (h : BitVec 8) (d : Dest) (o : Frame) (tag hop : BitVec 4) : Prop where
  heading : w.extractLsb' 24 8 = h
  dest : w.extractLsb' 17 7 = destCode d
  origin : w.extractLsb' 10 7 = frameCode o
  tag : w.extractLsb' 6 4 = tag
  hop : w.extractLsb' 2 4 = hop
  unnamed : w.extractLsb' 0 2 = 0#2

/-! ### Counter groups -/

/-- The group that a counter belongs to (R190). -/
def CounterId.group : CounterId → Group
  | .link p _ => .link p
  | .traffic p _ => .traffic p
  | .stream n _ => .stream n
  | .timing _ => .timing
  | .trigger _ => .trigger
  | .control _ => .control

/-- The group kind and index words that name a counter group (R190); the last three kinds read no index. -/
def Group.NamedBy (g : Group) (kind index : Word) : Prop :=
  match g with
  | .link p => kind = 0#32 ∧ index = portWord p
  | .traffic p => kind = 1#32 ∧ index = portWord p
  | .stream n => kind = 2#32 ∧ index = natWord n.val
  | .timing => kind = 3#32
  | .trigger => kind = 4#32
  | .control => kind = 5#32

/-! ### The order of what is due -/

/-- The place of a row among rows that are due together (log entry 8); none for a row that no timer, counter or queue of the hub
makes due. -/
def turnOf : Instr → Option Nat
  | .restartTakesEffect => some 0
  | .unknownRequestKind | .readIdentity | .setFrameNumber | .hubRestart | .readPort | .setPort | .drainPort | .restorePort
  | .loopTest | .writeStream | .readStream | .clearStream | .stageRoute | .writeFrameRoute | .readFrameRoute
  | .writeTriggerMap | .readTriggerMap | .setTriggerPin | .setTriggerInput | .originateTrigger | .setCadence | .readCadence
  | .setTiming | .readTiming | .setTime | .setReport | .readNotices | .clearNotices | .readCounters | .clearCounters => some 1
  | .transmissionEnds p => some (2 + p.number)
  | .parkingHelloEnds c => some (2 + c.number)
  | .drainCloses c => some (7 + 11 * c.number)
  | .drainTimeout c => some (8 + 11 * c.number)
  | .loopTestTimeout c => some (9 + 11 * c.number)
  | .trainingAttemptTimeout c => some (10 + 11 * c.number)
  | .echoWaitExpiry c => some (11 + 11 * c.number)
  | .greetingWaitExpiry c => some (12 + 11 * c.number)
  | .helloRepeat c => some (13 + 11 * c.number)
  | .helloRefresh c => some (14 + 11 * c.number)
  | .cleanRunTimerRunsOut c => some (15 + 11 * c.number)
  | .decayStep c => some (16 + 11 * c.number)
  | .muteTimerRunsOut c => some (17 + 11 * c.number)
  | .pinCountRunsOut i => some (51 + i.val)
  | .cadencePulseEnds k => some (55 + k.val)
  | .firing => some 57
  | .cadenceEdgeTaken k => some (58 + k.val)
  | .queryTimerExpiry => some 60
  | .answerWaitEnds => some 61
  | .holdoverLimitReached => some 62
  | .pinReset _ | .detectEdge _ _ | .fEntersActive | .fEntersDown | .receiverAligned _ | .lossOfAlignment _ | .retrainingSeen _
  | .headingFault _ | .checkFailure _ _ | .addressCodeFault _ | .abortedMessage _ | .sampleBlock _ _ _ | .controlRequest _ _
  | .controlReply _ _ | .notice _ _ | .triggerNotice _ _ | .delayQuery _ _ _ | .timeAnswer _ _ _ | .hello _ _ | .echo _ _ _
  | .loopTestReturn _ _ _ | .inputEdge _ _ | .huntEnds _ => none

/-! ### Taking a request -/

/-- The state once the head request has left the queue, `rest` remaining (R162). -/
def State.popped (s : State) (rest : List Request) : State := s.modCtl fun x => { x with queue := rest }

/-- Request `r` of kind `k` stands at the head of the queue, `rest` behind it, and no pending restart stalls the control unit
(R162, R169). -/
structure State.Heads (s : State) (k : ReqKind) (r : Request) (rest : List Request) : Prop where
  head : s.ctl.queue = r :: rest
  running : s.ctl.restartPending = false
  kind : r.msg.kind = k.code

/-- Beside heading the queue, the request passes tests 2 to 4 of R162: operand count, authority, ownership. -/
structure State.Serves (s : State) (k : ReqKind) (r : Request) (rest : List Request) : Prop extends s.Heads k r rest where
  count : r.msg.operands.length = k.operandCount
  authority : s.authorityOk k r = true
  owner : s.ownerOk k r = true

end Sys2Proof.Machine
end

