-- ==== Sys2Proof/Certificates/Slice0/Obligations.lean ====
section
/-! DEFINITION. The statements about the JB45 for the provers. Each docstring names the rules a statement is drawn from. A
premise `s.BusyLaw` (R58: an idle port whose arbiter makes choices has nothing waiting) rules out states that no run reaches;
it is a law of its own, kept by every step (`QueuesSoundKept`). Two states stand for "the request at the head of the queue"
(`State.Heads`, `State.Serves`) and "the queue without it" (`State.popped`). -/

open Sys2Proof Sys2Proof.Machine

/-! ### The machine -/

/-- A command at the front of the queue is executed on the state with the rest of the queue. With none waiting, a report of a loss by
missed answers that still stands out is taken first (log entry 32), then the event that is due, and else one tick passes: rack time
advances by its increment (R93), what the old tick's stamps took joins the record that receive stamps are taken from (R17, log entry
10), the new tick's stamps take RT_ns as it now stands (R109, R112), and the first words that are due pass (the idle step is the
model's choice, log entry 8). -/
def Obligations.StepRunsFront : Prop :=
  ∀ (s : State) (i : Instr) (rest : List Instr),
    step { s with pending := i :: rest } = exec i { s with pending := rest } ∧
      (s.pending = [] →
        (∀ c, s.selector.lossReport = some c → ∃ t, step s = .next t ∧ s.select.Quiet t ∧ t.selector.lossReport = none) ∧
        (s.selector.lossReport = none →
          (∀ d, s.nextDue = some d → step s = exec d s) ∧
          (s.nextDue = none → step s = .next
            ({ s with now := s.now + 1,
                      time := { s.time with
                        counter := s.time.counter + BitVec.ofInt 72 (2 ^ 27 + s.time.correction) },
                      stampNs := (s.time.counter + BitVec.ofInt 72 (2 ^ 27 + s.time.correction)).extractLsb' 24 48,
                      stamps := (s.stampNs :: s.stamps).take 272 } : State).firstWords)))

/-- Every command in every state has a next state: no event faults the hub and none is refused (R20: an event that reaches a port
in a state its rule does not name leaves that port's state as it is). -/
def Obligations.EveryCommandCompletes : Prop :=
  ∀ (i : Instr) (s : State), ∃ t, exec i s = .next t

/-- R17, R10, R16, R109, R112: a receive stamp is RT_ns of the tick on which the message's first word passed the receive stamp point. A
command names that tick by how many ticks ago it was, and the hub's record gives its RT_ns, as it stood when that tick began: the new
value once a tick has passed, and what is the stamp of `k` ticks ago is that of `k + 1` ticks ago once one more tick has passed, up to
the 272 ticks of the longest message (R8). No command but PIN_RESET changes what a stamp takes, this tick's or an earlier one's: a step
of rack time shows in stamps from the next tick on, and corrects none. Only TIME ANSWER, SET TIME and PIN_RESET change the counter
beside its increment (R93). That the tick is the command's to say, and what a tick beyond the record gives, is the model's choice (log
entry 10). -/
def Obligations.ReceiveStamps : Prop :=
  (∀ s : State, s.rxStamp 0 = s.stampNs ∧ ∀ (k : Nat) (x : Stamp), s.stamps[k]? = some x → s.rxStamp (k + 1) = x) ∧
  (∀ s t : State, s.pending = [] → s.selector.lossReport = none → s.nextDue = none → step s = .next t →
    t.rxStamp 0 = t.time.counter.extractLsb' 24 48 ∧ ∀ k, k < 272 → t.rxStamp (k + 1) = s.rxStamp k) ∧
  ∀ (i : Instr) (s t : State), (∀ pins, i ≠ .pinReset pins) → exec i s = .next t →
    t.stampNs = s.stampNs ∧ t.stamps = s.stamps ∧ (∀ k, t.rxStamp k = s.rxStamp k) ∧
      (i ≠ .setTime → (∀ p ago m, i ≠ .timeAnswer p ago m) → t.time.counter = s.time.counter)

/-! ### Requests -/

/-- R162, R163, R164: a head request that fails test 2, 3 or 4 is answered RANGE, AUTHORITY or OWNER, by the first it fails, and a
head request of none of the 29 kinds UNKNOWN. It changes no state: it leaves the queue, and its reply, without results, is
formed. What the two last tests refuse: with remote authority, HUB RESTART, SET FRAME NUMBER on an assigned hub, and a WRITE
STREAM, CLEAR STREAM or STAGE ROUTE of a valid entry whose owner frame is not the origin; nothing else. -/
def Obligations.RefusedRequests : Prop :=
  ∀ (s : State) (r : Request),
    (∀ rest, s.BusyLaw →
      (∀ k, s.Heads k r rest →
        (r.msg.operands.length ≠ k.operandCount →
          exec (requestRow (some k)) s = .next ((s.popped rest).sendReply (r.reply .range []))) ∧
        (r.msg.operands.length = k.operandCount → s.authorityOk k r = false →
          exec (requestRow (some k)) s = .next ((s.popped rest).sendReply (r.reply .authority []))) ∧
        (r.msg.operands.length = k.operandCount → s.authorityOk k r = true → s.ownerOk k r = false →
          exec (requestRow (some k)) s = .next ((s.popped rest).sendReply (r.reply .owner [])))) ∧
      (s.ctl.queue = r :: rest → s.ctl.restartPending = false → (∀ k : ReqKind, r.msg.kind ≠ k.code) →
        exec .unknownRequestKind s = .next ((s.popped rest).sendReply (r.reply .unknown [])))) ∧
    ∀ k : ReqKind,
      (s.authorityOk k r = false ↔
        (∃ c, r.arrival = .cable c) ∧ (k = .hubRestart ∨ (k = .setFrameNumber ∧ s.frame ≠ unassigned))) ∧
      (s.ownerOk k r = false ↔
        (∃ c, r.arrival = .cable c) ∧ (k = .writeStream ∨ k = .clearStream ∨ k = .stageRoute) ∧
          ∃ n : StreamNo, (r.op 0).toNat = n.val ∧ (s.entry n).valid = true ∧ (s.entry n).owner ≠ r.msg.origin)

/-- R166: a reply carries the request's origin as destination, this hub's frame number as origin, the request's tag, hop count 15,
its kind, the outcome and the results. It joins the control queue of its arrival port, whose arbiter then chooses, and is
counted in replies issued, when that port is in service and the queue has room; else it is counted in replies undeliverable. -/
def Obligations.ReplyFormed : Prop :=
  ∀ (s : State) (r : Request) (a : Answer) (results : List Word),
    (s.inService r.arrival = true → (s.port r.arrival).queues.control.length < 8 →
      s.sendReply (r.reply a results) =
        ((s.modQueues r.arrival fun q =>
          { q with control := q.control ++
              [⟨.reply ⟨.frame r.msg.origin, s.frame, r.msg.tag, 15#4, r.msg.kind, a.code, results⟩, false⟩] }).arbitrate
            r.arrival).count (.control .repliesIssued)) ∧
    (s.inService r.arrival = false ∨ 8 ≤ (s.port r.arrival).queues.control.length →
      s.sendReply (r.reply a results) = s.count (.control .repliesUndeliverable))

/-- R198: READ IDENTITY is answered DONE with the part code, the revision, the three straps as sampled, the frame number and the role;
it changes nothing. -/
def Obligations.ReadIdentity : Prop :=
  ∀ (s : State) (r : Request) (rest : List Request), s.BusyLaw → s.Heads .readIdentity r rest → r.msg.operands = [] →
    exec .readIdentity s = .next ((s.popped rest).sendReply (r.reply .done
      [0x0B45#32, 1#32, s.straps.fn.setWidth 32, if s.straps.src then 1#32 else 0#32, if s.straps.admits then 1#32 else 0#32,
       BitVec.ofNat 32 s.frame.val, if s.time.role = .source then 1#32 else 0#32]))

/-- R44: READ PORT of a cable port reports its 15 results as they stand and, when clear edges is yes, then clears both edge flags;
of F it reports F's state and presence level. A port operand that is no port, and on a cable port a clear-edges word that is neither
value, is answered RANGE. -/
def Obligations.ReadPort : Prop :=
  ∀ (s : State) (r : Request) (rest : List Request), s.BusyLaw → s.Serves .readPort r rest →
    (∀ (c : Cable) (clear : Bool), (r.op 0).toNat = c.number → r.op 1 = boolWord clear →
      exec .readPort s = .next (((s.popped rest).modCable c fun u =>
          if clear then { u with inserted := false, removed := false } else u).sendReply (r.reply .done
        [stateWord (s.cable c).state, boolWord (s.cable c).suspect, natWord (s.cable c).budget, boolWord (s.cable c).level,
         boolWord (s.cable c).inserted, boolWord (s.cable c).removed, boolWord (s.cable c).admits,
         boolWord (s.cable c).eligible, rateWord (s.cable c).rate, boolWord (s.cable c).drain.isSome,
         boolWord (s.cable c).loop.isSome, optWord (fun n => frameWord n.frame) (s.cable c).neighbour,
         optWord (fun n => n.rank.setWidth 32) (s.cable c).neighbour,
         optWord frameWord ((s.cable c).neighbour.bind (·.upstream)),
         optWord (fun n => roleWord n.role) (s.cable c).neighbour]))) ∧
    (∀ clear : Bool, (r.op 0).toNat = 4 → r.op 1 = boolWord clear →
      exec .readPort s = .next ((s.popped rest).sendReply (r.reply .done [boolWord s.fActive, boolWord s.fActive]))) ∧
    (4 < (r.op 0).toNat ∨ ((r.op 0).toNat < 4 ∧ 1 < (r.op 1).toNat) →
      exec .readPort s = .next ((s.popped rest).sendReply (r.reply .range [])))

/-- R75, R76, R150, R155, R115, R190: READ STREAM, READ TRIGGER MAP, READ CADENCE, READ TIMING and READ COUNTERS are answered DONE
with the results their rules list, in order, and with RANGE when an operand does not decode; they change nothing. The last clause
gives the code words of R19, R20, R95, R134, R148, R151 and R2. Two points are the model's choice: READ PORT of F with a clear-edges
word that is neither value is answered RANGE (log entry 9), and in the tick in which a count runs out, before that row, 0 ticks are
left on an output that is still active (log entry 30). -/
def Obligations.ReadRequests : Prop :=
  (∀ (s : State) (r : Request) (rest : List Request), s.BusyLaw →
    ∀ (done : List Word → Host.Outcome State Fault Refusal) (range : Host.Outcome State Fault Refusal),
    (∀ l, done l = .next ((s.popped rest).sendReply (r.reply .done l))) →
    range = .next ((s.popped rest).sendReply (r.reply .range [])) →
    (s.Serves .readPort r rest → (r.op 0).toNat = 4 → 1 < (r.op 1).toNat → exec .readPort s = range) ∧
    (s.Serves .readStream r rest →
      (∀ n : StreamNo, (r.op 0).toNat = n.val →
        (∀ e, e = s.entry n → r.op 1 = 0#32 →
          (e.valid = true → exec .readStream s = done
            [1#32, natWord e.owner.val, portWord e.ingress, e.route.outputs.setWidth 32, optWord portWord e.route.protect,
             optWord portWord e.route.alternate, natWord e.length, natWord e.quota,
             natWord ((if e.cls = .bulk then 2 else 0) + if e.mode = .stampAtEntry then 1 else 0), natWord e.lateness,
             optWord (fun l => natWord l.val) e.gateLine, natWord e.gateCount]) ∧
          (e.valid = false → exec .readStream s = done (0#32 :: List.replicate 11 absentWord))) ∧
        (∀ u, u = s.run n → r.op 1 = 1#32 → exec .readStream s = done
          ([natWord (s.held n), optWord (·.setWidth 32) u.expected, optWord (·.setWidth 32) u.lastAdmitted,
            boolWord u.gateOpen, optWord natWord u.remaining, boolWord u.onAlternate] ++
           match u.pendingRoute with
           | some x => [x.route.outputs.setWidth 32, optWord portWord x.route.protect, optWord portWord x.route.alternate,
               x.switch.setWidth 32]
           | none => List.replicate 4 absentWord))) ∧
      (64 ≤ (r.op 0).toNat ∨ 1 < (r.op 1).toNat → exec .readStream s = range)) ∧
    (s.Serves .readTriggerMap r rest →
      (∀ i : Fin 8, r.op 0 = 0#32 → r.op 1 = natWord i.val → ∀ e, e = s.trig.map[i] →
        exec .readTriggerMap s = done
          [boolWord e.valid, natWord e.line.val, natWord e.base, natWord e.span, optWord (fun x => natWord x.val) e.pin]) ∧
      (∀ i : Fin 4, r.op 0 = 1#32 → r.op 1 = natWord i.val → ∀ e, e = s.trig.inputs[i] →
        ∀ running : Bool, (running = true ↔ ∃ a, e.lastOrigin = some a ∧ s.now - a < (e.holdoff + 7) / 8) →
        exec .readTriggerMap s = done
          [edgeWord e.edge, natWord e.line.val, natWord e.holdoff, boolWord e.level, boolWord running]) ∧
      (∀ i : Fin 4, r.op 0 = 2#32 → r.op 1 = natWord i.val → ∀ e, e = s.trig.pins[i] →
        exec .readTriggerMap s = done (polarityWord e.polarity :: natWord e.width ::
          match e.activeUntil with
          | some a => [1#32, natWord (a - s.now)]
          | none => [0#32, 0#32])) ∧
      (∀ i : Fin 8, r.op 0 = 3#32 → r.op 1 = natWord i.val →
        exec .readTriggerMap s = done (match s.trig.schedule[i.val]? with
          | some e =>
            [1#32, (e.fire.extractLsb' 32 16).setWidth 32, e.fire.extractLsb' 0 32] ++
              (match e.target with
                | .pin x => [0#32, natWord x.val]
                | .gates => [1#32, natWord e.line.val]) ++
              [natWord e.origin.val, e.quality.code.setWidth 32, boolWord e.late]
          | none => 0#32 :: List.replicate 7 absentWord)) ∧
      (r.op 0 = 4#32 → exec .readTriggerMap s = done
        [s.trig.originCounter.setWidth 32, natWord s.trig.lead, natWord s.trig.recent.length,
         natWord s.trig.schedule.length]) ∧
      (4 < (r.op 0).toNat ∨ ((r.op 0 = 0#32 ∨ r.op 0 = 3#32) ∧ 8 ≤ (r.op 1).toNat) ∨
          ((r.op 0 = 1#32 ∨ r.op 0 = 2#32) ∧ 4 ≤ (r.op 1).toNat) →
        exec .readTriggerMap s = range)) ∧
    (s.Serves .readCadence r rest →
      (∀ k : Fin 2, (r.op 0).toNat = k.val → ∀ u, u = s.cadence[k] →
        ∀ five : CadenceSettings → List Word, (∀ c, five c =
          [cadenceModeWord c.mode, natWord c.period, natWord c.phase, natWord c.width, boolWord c.lockedOnly]) →
        exec .readCadence s = done (five u.settings ++
          (match u.pending with
            | some c => 1#32 :: five c
            | none => 0#32 :: List.replicate 5 absentWord) ++
          (match u.next with
            | some g => [(g.extractLsb' 32 16).setWidth 32, g.extractLsb' 0 32]
            | none => [absentWord, absentWord]) ++
          match u.highUntil with
            | some a => [1#32, natWord (a - s.now)]
            | none => [0#32, 0#32])) ∧
      (2 ≤ (r.op 0).toNat → exec .readCadence s = range)) ∧
    (s.Serves .readTiming r rest → ∀ x, x = s.time →
      (r.op 0 = 0#32 → ∀ elapsed : Nat,
        (∀ a, x.state = .holdover → x.holdoverSince = some a → elapsed = (s.now - a) / 125000000) →
        (x.state ≠ .holdover ∨ x.holdoverSince = none → elapsed = 0) →
        exec .readTiming s = done
          [timingStateWord x.state, boolWord x.heldRate, s.quality.code.setWidth 32, s.rank.setWidth 32,
           optWord cableWord s.selector.upstream, (s.ns.extractLsb' 32 16).setWidth 32, s.ns.extractLsb' 0 32,
           BitVec.ofInt 32 x.correction, BitVec.ofInt 32 x.integrator, natWord x.history.length,
           (if x.history = [] then absentWord
            else BitVec.ofInt 32 (min (x.history.sum / x.history.length) (2 ^ 32 - 2))),
           boolWord x.lastOffset.isSome,
           BitVec.ofInt 32 (max (-2 ^ 31) (min (2 ^ 31 - 1) (x.lastOffset.getD 0))), natWord x.lockRun,
           natWord x.missedRun, natWord elapsed]) ∧
      (r.op 0 = 1#32 → exec .readTiming s = done
        [roleWord x.role, BitVec.ofInt 32 x.settings.trim, natWord x.settings.interval, natWord x.settings.kp,
         natWord x.settings.ki, natWord x.settings.step, natWord x.settings.window, natWord x.settings.holdover]) ∧
      (1 < (r.op 0).toNat → exec .readTiming s = range)) ∧
    (s.Serves .readCounters r rest →
      (∀ p, Group.NamedBy (.link p) (r.op 0) (r.op 1) → exec .readCounters s = done
        ([.headingFaults, .checkFailures, .addressFaults, .aborted, .trainingRetries, .notInService, .frameClashes, .faults,
          .quarantines].map fun k => s.counters.get (.link p k))) ∧
      (∀ p, Group.NamedBy (.traffic p) (r.op 0) (r.op 1) → exec .readCounters s = done
        ([.timingDrops, .triggerDrops, .queueFull, .cut, .flushed, .parkDiscards, .unassignedDrops, .unknownStream].map
          fun k => s.counters.get (.traffic p k))) ∧
      (∀ n, Group.NamedBy (.stream n) (r.op 0) (r.op 1) → exec .readCounters s = done
        ([.forwarded, .misrouted, .lengthMismatch, .stale, .gap, .gated, .late, .noPath, .shed, .queueFull].map
          fun k => s.counters.get (.stream n k))) ∧
      (Group.NamedBy .timing (r.op 0) (r.op 1) → exec .readCounters s = done
        ([.queriesSent, .queriesAnswered, .answersAccepted, .answersDiscarded, .missedAnswers, .negativeRounds, .outliers,
          .historyRestarts, .steps].map fun k => s.counters.get (.timing k))) ∧
      (Group.NamedBy .trigger (r.op 0) (r.op 1) → exec .readCounters s = done
        ([.noticesTaken, .noticesOriginated, .heldOff, .malformed, .duplicates, .copiesForwarded, .entriesScheduled,
          .overflows, .firings, .lateFirings, .mergedFirings, .pulses 0, .pulses 1, .suppressed 0, .suppressed 1].map
          fun k => s.counters.get (.trigger k))) ∧
      (Group.NamedBy .control (r.op 0) (r.op 1) → exec .readCounters s = done
        ([.requestsQueued, .queueFullRefusals, .repliesIssued, .repliesUndeliverable, .unassignedDiscards,
          .unreachableAnswers, .forwardBusyAnswers, .requestsForwarded, .repliesForwarded, .forwardDrops,
          .deliveredToFrame, .deliveryDrops, .noticesSent, .noticesNotSent].map fun k => s.counters.get (.control k))) ∧
      ((∀ g, ¬ Group.NamedBy g (r.op 0) (r.op 1)) → exec .readCounters s = range))) ∧
  ([PortState.dark, .training, .greeting, .active, .draining, .parked, .quarantined].map stateWord =
      [0#32, 1#32, 2#32, 3#32, 4#32, 5#32, 6#32] ∧
    [TimingState.free, .acquiring, .locked, .holdover, .source].map timingStateWord = [0#32, 1#32, 2#32, 3#32, 4#32] ∧
    [EdgeSetting.off, .rising, .falling, .both].map edgeWord = [0#32, 1#32, 2#32, 3#32] ∧
    [CadenceMode.stopped, .single, .continuous].map cadenceModeWord = [0#32, 1#32, 2#32] ∧
    [Polarity.activeHigh, .activeLow].map polarityWord = [0#32, 1#32] ∧
    [Rate.full, .half].map rateWord = [0#32, 1#32] ∧ [Role.follow, .source].map roleWord = [0#32, 1#32] ∧
    [false, true].map boolWord = [0#32, 1#32] ∧
    [Quality.untraced, .holdover, .traceable].map Quality.code = [0#2, 1#2, 2#2] ∧
    Port.all.map portWord = [0#32, 1#32, 2#32, 3#32, 4#32] ∧ Cable.all.map cableWord = [0#32, 1#32, 2#32, 3#32] ∧
    absentWord = 0xFFFFFFFF#32)

/-- R173, R174, R172: READ FRAME ROUTE reports the entry's ports, all ones when absent, and the port a message for the frame would be
forwarded by now: the primary when ACTIVE, else the alternate when ACTIVE, else none; all ones for the hub's own frame. WRITE FRAME
ROUTE replaces the entry of a frame by a primary and an alternate that decode, the alternate only beside a primary it differs from;
every other operand is answered RANGE and writes nothing. -/
def Obligations.FrameRoutes : Prop :=
  ∀ (s : State) (r : Request) (rest : List Request), s.BusyLaw →
    (s.Serves .readFrameRoute r rest →
      (∀ f : Frame, (r.op 0).toNat = f.val → ∀ current : Word,
        (f = s.frame → current = absentWord) →
        (f ≠ s.frame → ∀ c, s.ctl.routes[f].primary = some c → (s.cable c).state = .active → current = cableWord c) →
        (f ≠ s.frame → (∀ c, s.ctl.routes[f].primary = some c → (s.cable c).state ≠ .active) →
          (∀ c, s.ctl.routes[f].alternate = some c → (s.cable c).state = .active → current = cableWord c) ∧
          ((∀ c, s.ctl.routes[f].alternate = some c → (s.cable c).state ≠ .active) → current = absentWord)) →
        exec .readFrameRoute s = .next ((s.popped rest).sendReply (r.reply .done
          [optWord cableWord s.ctl.routes[f].primary, optWord cableWord s.ctl.routes[f].alternate, current]))) ∧
      (32 ≤ (r.op 0).toNat → exec .readFrameRoute s = .next ((s.popped rest).sendReply (r.reply .range [])))) ∧
    (s.Serves .writeFrameRoute r rest →
      (∀ (f : Frame) (p a : Option Cable), (r.op 0).toNat = f.val → r.op 1 = optWord cableWord p → r.op 2 = optWord cableWord a →
        (a.isSome → p.isSome ∧ a ≠ p) →
        exec .writeFrameRoute s = .next (((s.popped rest).modCtl fun x => { x with routes := x.routes.set f ⟨p, a⟩ }).sendReply
          (r.reply .done []))) ∧
      (32 ≤ (r.op 0).toNat ∨ (4 ≤ (r.op 1).toNat ∧ r.op 1 ≠ absentWord) ∨ (4 ≤ (r.op 2).toNat ∧ r.op 2 ≠ absentWord) ∨
          (r.op 2 ≠ absentWord ∧ (r.op 1 = absentWord ∨ r.op 2 = r.op 1)) →
        exec .writeFrameRoute s = .next ((s.popped rest).sendReply (r.reply .range []))))

/-- R72, R71, R69, R53: WRITE STREAM of a decodable, legal entry whose quota is not below the held count replaces the whole entry and
sets the runtime state initial; below it, it is answered BUSY; an operand that does not decode, or an illegal route, is
answered RANGE. -/
def Obligations.WriteStream : Prop :=
  ∀ (s : State) (r : Request) (rest : List Request), s.BusyLaw → s.Serves .writeStream r rest →
    (∀ (n : StreamNo) (e : StreamEntry), (r.op 0).toNat = n.val → r.entry? = some e →
      (s.held n ≤ e.quota →
        exec .writeStream s = .next (({ s.popped rest with
          streams := s.streams.set n ⟨e, ⟨none, none, e.gateLine.isNone, none, false, none⟩⟩ } : State).sendReply
            (r.reply .done []))) ∧
      (e.quota < s.held n → exec .writeStream s = .next ((s.popped rest).sendReply (r.reply .busy [])))) ∧
    (64 ≤ (r.op 0).toNat ∨ r.entry? = none →
      exec .writeStream s = .next ((s.popped rest).sendReply (r.reply .range [])))

/-- R71, R67, R68: a WRITE STREAM's twelve operands name exactly this entry: owner frame by the request's authority, ingress port,
output set, protected and alternate port, block length, quota, class and stamp mode, lateness bound, gate line and gate count, each
from its operand, the quota and the lateness bound clamped; and it names none when an operand does not decode or the route is not
legal, that is, breaks a constraint of R68. -/
def Obligations.WrittenEntryIsSound : Prop :=
  (∀ (r : Request) (e : StreamEntry), r.entry? = some e ↔
    e.valid = true ∧ e.Sound ∧ e.gateCount ≤ 65535 ∧
      (r.arrival = .f → (r.op 1).toNat = e.owner.val) ∧ (∀ c, r.arrival = .cable c → e.owner = r.msg.origin) ∧
      r.op 2 = portWord e.ingress ∧ r.op 3 = e.route.outputs.setWidth 32 ∧ r.op 4 = optWord portWord e.route.protect ∧
      r.op 5 = optWord portWord e.route.alternate ∧ (r.op 6).toNat = e.length ∧ min (r.op 7).toNat 32 = e.quota ∧
      r.op 8 = natWord ((if e.cls = .bulk then 2 else 0) + if e.mode = .stampAtEntry then 1 else 0) ∧
      min (r.op 9).toNat 1000000 = e.lateness ∧ r.op 10 = optWord (fun l => natWord l.val) e.gateLine ∧
      (r.op 11).toNat = e.gateCount) ∧
  ∀ (x : StreamRoute) (ingress : Port), x.legal ingress = true ↔
    x.outputs ≠ 0#5 ∧ x.outputs.getLsbD ingress.number = false ∧
      (∀ p, x.protect = some p → x.outputs.getLsbD p.number = true) ∧
      (∀ a, x.alternate = some a → x.protect.isSome ∧ x.outputs.getLsbD a.number = false ∧ a ≠ ingress)

/-- R74, R77: CLEAR STREAM makes a valid entry invalid, its other fields kept, and discards its pending route; an invalid entry is
not changed. STAGE ROUTE of a valid entry with no pending route stores a legal route; it is answered STATE for an invalid
entry, BUSY for a route already pending, RANGE for an operand that does not decode or an illegal route; the route it names has its
output set, protected and alternate port and switch sequence from the four operands after the stream number. -/
def Obligations.ClearAndStage : Prop :=
  ∀ (s : State) (r : Request) (rest : List Request), s.BusyLaw →
    (s.Serves .clearStream r rest →
      (∀ n : StreamNo, (r.op 0).toNat = n.val →
        ((s.entry n).valid = true →
          exec .clearStream s = .next ((((s.popped rest).modEntry n fun e => { e with valid := false }).modRun n
            fun u => { u with pendingRoute := none }).sendReply (r.reply .done []))) ∧
        ((s.entry n).valid = false →
          exec .clearStream s = .next ((s.popped rest).sendReply (r.reply .done [])))) ∧
      (64 ≤ (r.op 0).toNat → exec .clearStream s = .next ((s.popped rest).sendReply (r.reply .range [])))) ∧
    (s.Serves .stageRoute r rest →
      (∀ n : StreamNo, (r.op 0).toNat = n.val →
        ((s.entry n).valid = false →
          exec .stageRoute s = .next ((s.popped rest).sendReply (r.reply .state []))) ∧
        ((s.entry n).valid = true → (s.run n).pendingRoute ≠ none →
          exec .stageRoute s = .next ((s.popped rest).sendReply (r.reply .busy []))) ∧
        ((s.entry n).valid = true → (s.run n).pendingRoute = none →
          (∀ x, r.stagedRoute? (s.entry n).ingress = some x →
            exec .stageRoute s = .next (((s.popped rest).modRun n fun u => { u with pendingRoute := some x }).sendReply
              (r.reply .done []))) ∧
          (r.stagedRoute? (s.entry n).ingress = none →
            exec .stageRoute s = .next ((s.popped rest).sendReply (r.reply .range []))))) ∧
      (64 ≤ (r.op 0).toNat → exec .stageRoute s = .next ((s.popped rest).sendReply (r.reply .range []))) ∧
      ∀ (ingress : Port) (x : PendingRoute), r.stagedRoute? ingress = some x ↔
        r.op 1 = x.route.outputs.setWidth 32 ∧ r.op 2 = optWord portWord x.route.protect ∧
          r.op 3 = optWord portWord x.route.alternate ∧ r.op 4 = x.switch.setWidth 32 ∧ x.route.legal ingress = true)

/-- R147: WRITE TRIGGER MAP replaces the entry at its index; an operand that does not decode is answered RANGE and writes nothing. -/
def Obligations.WriteTriggerMap : Prop :=
  ∀ (s : State) (r : Request) (rest : List Request), s.BusyLaw → s.Heads .writeTriggerMap r rest →
    (∀ (i : Fin 8) (valid : Bool) (line : Line) (base span : Nat) (pin : Option (Fin 4)),
      base ≤ 30 → span ∈ [1, 2, 4, 8, 16, 32] →
      r.msg.operands = [natWord i.val, boolWord valid, natWord line.val, natWord base, natWord span,
        optWord (fun x => natWord x.val) pin] →
      exec .writeTriggerMap s = .next (((s.popped rest).modTrig fun t =>
        { t with map := t.map.set i ⟨valid, line, base, span, pin⟩ }).sendReply (r.reply .done []))) ∧
    (r.msg.operands.length = 6 →
      8 ≤ (r.op 0).toNat ∨ 1 < (r.op 1).toNat ∨ 16 ≤ (r.op 2).toNat ∨ 30 < (r.op 3).toNat ∨
        (r.op 4).toNat ∉ [1, 2, 4, 8, 16, 32] ∨ (4 ≤ (r.op 5).toNat ∧ r.op 5 ≠ absentWord) →
      exec .writeTriggerMap s = .next ((s.popped rest).sendReply (r.reply .range [])))

/-- R148, R144, R149: SET TRIGGER PIN writes the polarity and the width, clamped into 8..524,280 and rounded up to a multiple of 8, and
leaves a running count as it stands. An active pin's level is high in ACTIVE-HIGH and low in ACTIVE-LOW, an inactive pin's the other
one, so that a new polarity acts on the level at once. SET TRIGGER INPUT writes edge setting, line and clamped hold-off, makes the last
origination absent, and writes the clamped lead. A word that does not decode is answered RANGE. -/
def Obligations.SetTriggerPinAndInput : Prop :=
  ∀ (s : State) (r : Request) (rest : List Request), s.BusyLaw →
    (∀ pin : TriggerPin,
      (pin.polarity = .activeHigh → (pin.high = true ↔ pin.activeUntil ≠ none)) ∧
      (pin.polarity = .activeLow → (pin.high = true ↔ pin.activeUntil = none))) ∧
    (s.Heads .setTriggerPin r rest →
      (∀ (i : Fin 4) (polarity : Polarity) (w : Word) (t : State), r.msg.operands = [natWord i.val, polarityWord polarity, w] →
        exec .setTriggerPin s = .next t →
        (polarity ≠ s.trig.pins[i].polarity → t.trig.pins[i].high = !s.trig.pins[i].high) ∧
        (polarity = s.trig.pins[i].polarity → t.trig.pins[i].high = s.trig.pins[i].high) ∧
        ∀ j : Fin 4, j ≠ i → t.trig.pins[j] = s.trig.pins[j]) ∧
      (∀ (i : Fin 4) (polarity : Polarity) (w : Word),
        r.msg.operands = [natWord i.val, polarityWord polarity, w] →
        exec .setTriggerPin s = .next (((s.popped rest).modTrig fun t =>
          { t with
            pins := t.pins.set i ⟨polarity, (max 8 (min 524280 w.toNat) + 7) / 8 * 8, t.pins[i].activeUntil⟩ }).sendReply
            (r.reply .done []))) ∧
      (r.msg.operands.length = 3 → 4 ≤ (r.op 0).toNat ∨ 1 < (r.op 1).toNat →
        exec .setTriggerPin s = .next ((s.popped rest).sendReply (r.reply .range [])))) ∧
    (s.Heads .setTriggerInput r rest →
      (∀ (i : Fin 4) (edge : EdgeSetting) (line : Line) (holdoff lead : Word),
        r.msg.operands = [natWord i.val, edgeWord edge, natWord line.val, holdoff, lead] →
        exec .setTriggerInput s = .next (((s.popped rest).modTrig fun t =>
          { t with
            inputs := t.inputs.set i ⟨edge, line, min holdoff.toNat 1000000, t.inputs[i].level, none⟩
            lead := min lead.toNat 1000000000 }).sendReply (r.reply .done []))) ∧
      (r.msg.operands.length = 5 → 4 ≤ (r.op 0).toNat ∨ 3 < (r.op 1).toNat ∨ 16 ≤ (r.op 2).toNat →
        exec .setTriggerInput s = .next ((s.popped rest).sendReply (r.reply .range []))))

/-- R153, R151: P is clamped, then φ reduced modulo P, then w clamped into 8..P − 8. On a STOPPED unit the settings are written at
once, and in SINGLE or CONTINUOUS the next edge becomes the next edge after RT_ns; on a running unit they become the pending
settings. A unit, mode or locked-only word that does not decode is answered RANGE. The next edge after a time t is the earliest grid
point φ + m·P below 2^48 that lies after t, and φ when there is none. -/
def Obligations.SetCadence : Prop :=
  (∀ (s : State) (r : Request) (rest : List Request), s.BusyLaw → s.Heads .setCadence r rest →
    (∀ (k : Fin 2) (mode : CadenceMode) (p φ w : Word) (locked : Bool),
      r.msg.operands = [natWord k.val, cadenceModeWord mode, p, φ, w, boolWord locked] →
      ∀ (period : Nat), period = max 1000 (min 1000000000 p.toNat) →
      ∀ (c : CadenceSettings), c = ⟨mode, period, φ.toNat % period, max 8 (min (period - 8) w.toNat), locked⟩ →
        (s.cadence[k].settings.mode = .stopped → mode = .stopped →
          exec .setCadence s = .next (((s.popped rest).modCadence k fun u =>
            { u with settings := c, next := none }).sendReply (r.reply .done []))) ∧
        (s.cadence[k].settings.mode = .stopped → mode ≠ .stopped →
          exec .setCadence s = .next (((s.popped rest).modCadence k fun u =>
            { u with settings := c, next := some (c.nextEdge s.ns) }).sendReply (r.reply .done []))) ∧
        (s.cadence[k].settings.mode ≠ .stopped →
          exec .setCadence s = .next (((s.popped rest).modCadence k fun u =>
            { u with pending := some c }).sendReply (r.reply .done [])))) ∧
    (r.msg.operands.length = 6 → 2 ≤ (r.op 0).toNat ∨ 2 < (r.op 1).toNat ∨ 1 < (r.op 5).toNat →
      exec .setCadence s = .next ((s.popped rest).sendReply (r.reply .range [])))) ∧
  ∀ (c : CadenceSettings) (t : Nat), c.InRange → t < 2 ^ 48 →
    (∃ m, (c.nextEdge (BitVec.ofNat 48 t)).toNat = c.phase + m * c.period) ∧ (c.nextEdge (BitVec.ofNat 48 t)).toNat < 2 ^ 48 ∧
      ((t < (c.nextEdge (BitVec.ofNat 48 t)).toNat ∧
          ∀ m, t < c.phase + m * c.period → (c.nextEdge (BitVec.ofNat 48 t)).toNat ≤ c.phase + m * c.period) ∨
        ((c.nextEdge (BitVec.ofNat 48 t)).toNat = c.phase ∧ ∀ m, c.phase + m * c.period < 2 ^ 48 → c.phase + m * c.period ≤ t))

/-- R137, R136, R184: on an assigned hub, with a line, a mode and a time that decode and a fire time that is not malformed, a notice
is originated and taken, a NOTICE is formed when one is due, and the reply is DONE with the sequence used, the fire time in two
words, and whether the notice passed the duplicate test. An unassigned hub answers STATE; else a word that does not decode, or a
malformed fire time, is answered RANGE. -/
def Obligations.OriginateTrigger : Prop :=
  ∀ (s : State) (r : Request) (rest : List Request), s.BusyLaw → s.Heads .originateTrigger r rest →
    r.msg.operands.length = 4 →
    (s.frame = unassigned → exec .originateTrigger s = .next ((s.popped rest).sendReply (r.reply .state []))) ∧
    (s.frame ≠ unassigned →
      (∀ (line : Line) (fire : Stamp), (r.op 0).toNat = line.val → (r.op 2).toNat < 2 ^ 16 →
        (r.op 1 = 0#32 ∧ fire = (r.op 2).setWidth 16 ++ r.op 3) ∨
          (r.op 1 = 1#32 ∧ fire = s.ns + ((r.op 2).setWidth 16 ++ r.op 3)) →
        (-2 ^ 31 ≤ stampDiff fire s.ns ∧ stampDiff fire s.ns ≤ 2 ^ 31 →
          ∀ (taken : Bool) (s' : State), (s.popped rest).originate line fire = (taken, s') →
            exec .originateTrigger s = .next ((State.noticed s s').sendReply (r.reply .done
              [s.trig.originCounter.setWidth 32, (fire.extractLsb' 32 16).setWidth 32, fire.extractLsb' 0 32,
               boolWord taken]))) ∧
        (stampDiff fire s.ns < -2 ^ 31 ∨ 2 ^ 31 < stampDiff fire s.ns →
          exec .originateTrigger s = .next ((s.popped rest).sendReply (r.reply .range [])))) ∧
      (16 ≤ (r.op 0).toNat ∨ 1 < (r.op 1).toNat ∨ 2 ^ 16 ≤ (r.op 2).toNat →
        exec .originateTrigger s = .next ((s.popped rest).sendReply (r.reply .range []))))

/-- R113, R114, R97, R96: a role word that is neither value is answered RANGE and nothing is written. Else every setting is
written after clamping, the role acts, and the selector evaluates: becoming SOURCE takes C from the trim, clears I, the exchange,
the timers and the held-rate flag and gives up the upstream; becoming FOLLOW takes I from C (the C it had: the trim of the same
request does not become C, the model's choice, log entry 29), clears the held-rate flag, starts the query timer with the interval in
force, and leaves the state ACQUIRING or FREE as the evaluation finds an upstream or not; in SOURCE a trim becomes C. A limit lowered
to or below the elapsed time ends a HOLDOVER, C kept (R99); a higher one does not. Beside what the ports send and counters, the state
left is the evaluated one, and the event ends with the DONE reply: giving up an upstream raises UPSTREAM, a changed timing state
TIMING-STATE (R95, R131), and on becoming FOLLOW a best candidate becomes the upstream (R131, R98). -/
def Obligations.SetTiming : Prop :=
  ∀ (s : State) (r : Request) (rest : List Request), s.BusyLaw → s.UpstreamLaw → s.RateLaw → s.Serves .setTiming r rest →
    (1 < (r.op 0).toNat → exec .setTiming s = .next ((s.popped rest).sendReply (r.reply .range []))) ∧
    (∀ role, r.op 0 = roleWord role → ∃ t, exec .setTiming s = .next t ∧ s.EndsWith t [r.reply .done []] ∧
      (∀ x : TimingSettings, x = ⟨max (-26843) (min 26843 (r.op 1).toInt), max 20 (min 27 (r.op 2).toNat),
          min 7 (r.op 3).toNat, max 2 (min 12 (r.op 4).toNat), max 1000 (min 1000000 (r.op 5).toNat),
          min (max 10 (min 10000 (r.op 6).toNat)) (max 1000 (min 1000000 (r.op 5).toNat)), max 1 (min 255 (r.op 7).toNat)⟩ →
        ∀ u, u = (s.popped rest).modTime (fun y => { y with settings := x }) →
        (s.time.role = .follow → role = .source → ∀ v, v = ((u.modTime fun y =>
            { y with
              role := .source, state := .source, correction := x.trim, integrator := 0, heldRate := false, queryAt := none
              holdoverSince := none, outstanding := none, history := [], outlierRun := 0, missedRun := 0, lockRun := 0
              lastOffset := none }).raise .timingState).modSelector (fun y => { y with upstream := none }) →
          (if s.selector.upstream = none then v else v.raise .upstream).select.Quiet t) ∧
        (s.time.role = .source → role = .follow →
          ((u.modTime fun y =>
            { y with
              role := .follow, state := .free, integrator := y.correction, heldRate := false
              queryAt := some (s.now + 2 ^ x.interval) }).raise .timingState).select.Quiet t) ∧
        (s.time.role = .source → role = .source →
          (u.modTime fun y => { y with correction := x.trim, integrator := 0 }).select.Quiet t) ∧
        (s.time.role = .follow → role = .follow →
          (∀ a, s.time.state = .holdover → s.time.holdoverSince = some a → x.holdover * 125000000 ≤ s.now - a →
            ((u.modTime fun y => { y with state := .free, holdoverSince := none }).raise .timingState).select.Quiet t) ∧
          (s.time.state ≠ .holdover ∨ (∀ a, s.time.holdoverSince = some a → s.now - a < x.holdover * 125000000) →
            u.select.Quiet t))) ∧
      (s.time.role = .source → role = .follow → s.selector.lossReport = none → ∀ b,
        (s.cable b).state = .active → (s.cable b).eligible = true → s.selector.mute.get b = none →
        (∃ n, (s.cable b).neighbour = some n ∧ n.rank.toNat ≤ 13 ∧ n.upstream ≠ some s.frame ∧
          ∀ c m, (s.cable c).neighbour = some m → n.rank.toNat < m.rank.toNat ∨
            (n.rank = m.rank ∧ b.number ≤ c.number)) →
        t.selector.upstream = some b ∧ t.time.state = .acquiring ∧ t.Pending .upstream ∧ t.Pending .timingState) ∧
      t.time.role = role ∧
      t.time.settings.trim = max (-26843) (min 26843 (r.op 1).toInt) ∧
      t.time.settings.interval = max 20 (min 27 (r.op 2).toNat) ∧
      t.time.settings.kp = min 7 (r.op 3).toNat ∧
      t.time.settings.ki = max 2 (min 12 (r.op 4).toNat) ∧
      t.time.settings.step = max 1000 (min 1000000 (r.op 5).toNat) ∧
      t.time.settings.window = min (max 10 (min 10000 (r.op 6).toNat)) t.time.settings.step ∧
      t.time.settings.holdover = max 1 (min 255 (r.op 7).toNat) ∧
      (role = .source → t.time.state = .source ∧ t.selector.upstream = none ∧
        t.time.correction = t.time.settings.trim ∧ t.time.integrator = 0) ∧
      (s.time.role = .follow → role = .source →
        t.time.heldRate = false ∧ t.time.outstanding = none ∧ t.time.history = [] ∧ t.time.outlierRun = 0 ∧
          t.time.missedRun = 0 ∧ t.time.lockRun = 0 ∧ t.time.lastOffset = none ∧ t.time.queryAt = none ∧
          t.time.holdoverSince = none) ∧
      (s.time.role = .source → role = .follow →
        t.time.heldRate = false ∧ t.time.integrator = s.time.correction ∧ t.time.correction = s.time.correction ∧
          t.time.queryAt = some (s.now + 2 ^ t.time.settings.interval) ∧
          t.time.state = if t.selector.upstream.isSome then .acquiring else .free) ∧
      (s.time.state = .holdover → role = .follow → s.selector.lossReport = none →
        t.time.correction = s.time.correction ∧
        ∀ a, s.time.holdoverSince = some a →
          (t.time.settings.holdover * 125000000 ≤ s.now - a → t.time.holdoverSince = none ∧ t.Pending .timingState ∧
            t.time.state = if t.selector.upstream.isSome then .acquiring else .free) ∧
          (s.now - a < t.time.settings.holdover * 125000000 → t.selector.upstream = none →
            t.time.state = .holdover ∧ t.time.holdoverSince = some a)))

/-- R116, R112, R146, R144, R154, R109: in SOURCE, SET TIME makes RT_ns the given value and the fraction 0, as a step; in any other
state it is answered STATE, and a first word above 16 bits RANGE, also outside SOURCE (the model's choice between the two answers,
log entry 23). A step leaves the new counter, is counted and raises TIME-STEP; the stamps of its own tick keep the old value, the next
tick's take the new one (`ReceiveStamps`). In a forward step exactly the schedule entries whose fire time does not lie after the new
RT_ns leave the schedule and fire, each as a late firing; in a step of 0 or less none; every cadence unit with a next edge takes the
next edge after the new RT_ns under its running settings. -/
def Obligations.SetTimeAndSteps : Prop :=
  (∀ (s : State) (r : Request) (rest : List Request), s.BusyLaw → s.Serves .setTime r rest →
    (2 ^ 16 ≤ (r.op 0).toNat → exec .setTime s = .next ((s.popped rest).sendReply (r.reply .range []))) ∧
    ((r.op 0).toNat < 2 ^ 16 → s.time.state ≠ .source →
      exec .setTime s = .next ((s.popped rest).sendReply (r.reply .state []))) ∧
    ((r.op 0).toNat < 2 ^ 16 → s.time.state = .source →
      exec .setTime s = .next ((State.noticed s ((s.popped rest).stepTo
        ((r.op 0).setWidth 16 ++ r.op 1 ++ 0#24))).sendReply (r.reply .done [])))) ∧
  ∀ (s : State) (c : BitVec 72), ∀ t, t = s.stepTo c →
    t.time = { s.time with counter := c } ∧ t.stampNs = s.stampNs ∧ s.Counts t (.timing .steps) 1 ∧ t.Pending .timeStep ∧
    (0 < stampDiff t.ns s.ns →
      t.trig.schedule = s.trig.schedule.filter (fun e => decide (0 < stampDiff e.fire t.ns)) ∧
      ∀ fired, fired = s.trig.schedule.filter (fun e => decide (stampDiff e.fire t.ns ≤ 0)) →
        s.Fired t fired fired.length) ∧
    (stampDiff t.ns s.ns ≤ 0 → t.trig = s.trig ∧ t.streams = s.streams) ∧
    t.trig.recent = s.trig.recent ∧ t.trig.inputs = s.trig.inputs ∧
    (∀ k : Fin 2, t.cadence[k] =
      { s.cadence[k] with next := s.cadence[k].next.map fun _ => s.cadence[k].settings.nextEdge t.ns }) ∧
    t.ports = s.ports ∧ t.cables = s.cables ∧ t.pool = s.pool ∧ t.ctl = s.ctl ∧ t.frame = s.frame

/-- R186, R54, R184, R187, R188: SET REPORT with a report frame, a mask and a watermark that decode writes the three settings, a NOTICE
is formed when a pending flag is newly enabled, and the reply is DONE; else the answer is RANGE and nothing is written. READ NOTICES is
answered DONE with the pending flags, the mask, the report frame, the watermark and the free count as they stand; it changes nothing.
CLEAR NOTICES makes every flag of its set not pending, leaves the others, and forms no NOTICE; a word with a bit above bit 11 is
answered RANGE and clears nothing. -/
def Obligations.NoticeRequests : Prop :=
  ∀ (s : State) (r : Request) (rest : List Request), s.BusyLaw →
    (s.Serves .setReport r rest →
      (∀ (report : Frame) (mask : BitVec 12) (watermark : Nat), (r.op 0).toNat = report.val → r.op 1 = mask.setWidth 32 →
        (r.op 2).toNat = watermark → watermark ∈ [8, 16, 24, 32] →
        exec .setReport s = .next ((State.noticed s (((s.popped rest).modNotices fun n =>
          { n with report := report, mask := mask }).modPool fun p => { p with watermark := watermark })).sendReply
            (r.reply .done []))) ∧
      (32 ≤ (r.op 0).toNat ∨ 4096 ≤ (r.op 1).toNat ∨ (r.op 2).toNat ∉ [8, 16, 24, 32] →
        exec .setReport s = .next ((s.popped rest).sendReply (r.reply .range [])))) ∧
    (s.Heads .readNotices r rest → r.msg.operands = [] →
      exec .readNotices s = .next ((s.popped rest).sendReply (r.reply .done
        [s.notices.flags.setWidth 32, s.notices.mask.setWidth 32, BitVec.ofNat 32 s.notices.report.val,
         BitVec.ofNat 32 s.pool.watermark, BitVec.ofNat 32 s.pool.free.length]))) ∧
    (s.Serves .clearNotices r rest →
      (∀ x : BitVec 12, r.op 0 = x.setWidth 32 →
        exec .clearNotices s = .next (((s.popped rest).modNotices fun n => { n with flags := n.flags &&& ~~~x }).sendReply
          (r.reply .done []))) ∧
      (4096 ≤ (r.op 0).toNat → exec .clearNotices s = .next ((s.popped rest).sendReply (r.reply .range []))))

/-- R191, R190: CLEAR COUNTERS of the group that its group kind and index name sets every counter of that group to 0 and no other;
words that name none are answered RANGE. -/
def Obligations.ClearCounters : Prop :=
  (∀ (s : State) (r : Request) (rest : List Request), s.BusyLaw → s.Serves .clearCounters r rest →
    (∀ g : Group, g.NamedBy (r.op 0) (r.op 1) →
      exec .clearCounters s =
        .next (({ s.popped rest with counters := s.counters.clear g } : State).sendReply (r.reply .done []))) ∧
    ((∀ g : Group, ¬ g.NamedBy (r.op 0) (r.op 1)) →
      exec .clearCounters s = .next ((s.popped rest).sendReply (r.reply .range [])))) ∧
  ∀ (b : Bank) (g : Group) (i : CounterId), (b.clear g).get i = if i.group = g then 0#32 else b.get i

/-- R196, R197, R183, R28: a number outside 0..30 is answered RANGE, the present number DONE, and neither changes anything. A new
number b is taken by the hub, and by the report frame when it was the old number; each port in ACTIVE or DRAINING whose neighbour
gives frame b is quarantined with FRAME-CLASH pending and its queues empty, and owes its CANCELLED replies, in port order before the
request's own DONE; every other port keeps its state. The HELLOs are called for next, on every port in GREETING, ACTIVE or DRAINING: an idle one whose
arbiter makes choices starts its HELLO with the values from before the evaluation (with rank 15 and no upstream frame where the
upstream port has just been quarantined in ACQUIRING or LOCKED, the model's choice, log entry 33), on any other it waits. Then the
selector evaluates. No other command but PIN_RESET changes the frame number (R194), and none but PIN_RESET the strap values (R193). -/
def Obligations.SetFrameNumber : Prop :=
  (∀ (i : Instr) (s t : State), exec i s = .next t → (∀ pins, i ≠ .pinReset pins) →
    t.straps = s.straps ∧ (i ≠ .setFrameNumber → t.frame = s.frame)) ∧
  ∀ (s : State) (r : Request) (rest : List Request), s.BusyLaw → s.Serves .setFrameNumber r rest →
    (31 ≤ (r.op 0).toNat → exec .setFrameNumber s = .next ((s.popped rest).sendReply (r.reply .range []))) ∧
    ((r.op 0).toNat = s.frame.val → s.frame ≠ unassigned →
      exec .setFrameNumber s = .next ((s.popped rest).sendReply (r.reply .done []))) ∧
    (∀ b : Frame, (r.op 0).toNat = b.val → b ≠ unassigned → b ≠ s.frame → ∃ t, exec .setFrameNumber s = .next t ∧
      t.frame = b ∧
      t.notices.report = (if s.notices.report = s.frame then b else s.notices.report) ∧
      (∀ c : Cable, (s.cable c).InService → (s.cable c).neighbour.map (·.frame) = some b →
        (t.cable c).state = .quarantined ∧ (t.cable c).neighbour = none ∧ (t.port (.cable c)).queues = Queues.empty ∧
          t.notices.flags.getLsbD 3 = true) ∧
      (∀ c : Cable, ¬ ((s.cable c).InService ∧ (s.cable c).neighbour.map (·.frame) = some b) →
        (t.cable c).state = (s.cable c).state ∧ (t.cable c).neighbour = (s.cable c).neighbour) ∧
      s.EndsWith t ((Cable.all.filter fun c => decide ((s.cable c).InService ∧
        (s.cable c).neighbour.map (·.frame) = some b)).flatMap s.cancelledReplies ++ [r.reply .done []]) ∧
      (∀ clash : Cable → Prop, (∀ c, clash c ↔ (s.cable c).InService ∧ (s.cable c).neighbour.map (·.frame) = some b) →
        (∃ u : State, u.select.Quiet t ∧ u.frame = b ∧ u.selector = s.selector ∧
          (∃ o, u.time = { s.time with outstanding := o }) ∧
          ∀ c, (u.cable c).eligible = (s.cable c).eligible ∧
            (clash c → (u.cable c).state = .quarantined ∧ (u.cable c).neighbour = none) ∧
            (¬ clash c → (u.cable c).state = (s.cable c).state ∧ (u.cable c).neighbour = (s.cable c).neighbour)) ∧
        ∀ (up : Option Frame) (rank : BitVec 4),
          ((∀ c, s.selector.upstream = some c → ¬ clash c) → up = s.upstreamFrame ∧ rank = s.rank) →
          ((∃ c, s.selector.upstream = some c ∧ clash c) →
            up = none ∧ rank = if s.time.state = .source then 0#4 else 15#4) →
          ∀ c, ¬ clash c →
            ((s.cable c).state = .greeting ∨ (s.cable c).state = .active ∨
                ((s.cable c).state = .draining ∧ ∀ d, (s.cable c).drain = some d → d.closed = false) →
              (s.port (.cable c)).tx = none →
                t.Sends (.cable c) (.hello ⟨b, up, rank, s.time.role, false⟩) .maintenance) ∧
            ((s.cable c).state = .greeting ∨ (s.cable c).InService →
              (s.port (.cable c)).tx ≠ none ∨ (∃ d, (s.cable c).state = .draining ∧ (s.cable c).drain = some d ∧ d.closed = true) →
                (t.cable c).helloDue = true ∧ (t.port (.cable c)).tx = (s.port (.cable c)).tx)) ∧
      t.pending = s.pending ∧ t.ctl.queue = rest ∧ t.ctl.routes = s.ctl.routes ∧ t.streams = s.streams ∧ t.trig = s.trig)

/-- R42, R35: a port that is not a cable port, or a setting that does not decode, is answered RANGE and writes nothing. Else the
three settings are written, and a changed rate sends a port in GREETING, ACTIVE or DRAINING to TRAINING, from service with its
CANCELLED replies before the request's DONE, fails the attempt of a port in TRAINING, and moves no other port; no fault is counted
and the suspect flag is kept. With the rate unchanged, a change of timing-eligible makes the selector evaluate, and nothing else
moves. -/
def Obligations.SetPort : Prop :=
  ∀ (s : State) (r : Request) (rest : List Request), s.BusyLaw → s.ServiceLaw → s.Serves .setPort r rest →
    (3 < (r.op 0).toNat ∨ 1 < (r.op 1).toNat ∨ 1 < (r.op 2).toNat ∨ 1 < (r.op 3).toNat →
      exec .setPort s = .next ((s.popped rest).sendReply (r.reply .range []))) ∧
    (∀ (c : Cable) (admits eligible : Bool) (rate : Rate), (r.op 0).toNat = c.number → r.op 1 = boolWord admits →
      r.op 2 = boolWord eligible → r.op 3 = rateWord rate → ∃ t, exec .setPort s = .next t ∧
      (t.cable c).admits = admits ∧ (t.cable c).eligible = eligible ∧ (t.cable c).rate = rate ∧
      (t.cable c).suspect = (s.cable c).suspect ∧
      s.EndsWith t ((if rate ≠ (s.cable c).rate ∧ (s.cable c).InService then s.cancelledReplies c else []) ++
        [r.reply .done []]) ∧
      (rate = (s.cable c).rate → (t.cable c).state = (s.cable c).state ∧
        ∀ u, u = (s.popped rest).modCable c (fun x => { x with admits := admits, eligible := eligible, rate := rate }) →
          (eligible = (s.cable c).eligible → t = u.sendReply (r.reply .done [])) ∧
          (eligible ≠ (s.cable c).eligible → u.select.Quiet t)) ∧
      (rate ≠ (s.cable c).rate →
        (((s.cable c).state = .greeting ∨ (s.cable c).InService) →
          (t.cable c).state = .training ∧ (t.cable c).neighbour = none ∧ (t.cable c).drain = none ∧
            (t.cable c).budget = 0 ∧ t.notices.flags.getLsbD 0 = true) ∧
        ((s.cable c).state = .training →
          (t.cable c).state = .training ∧ (t.cable c).goodRun = 0 ∧ (t.port (.cable c)).aligned = false ∧
            (t.cable c).attemptEnds = some (s.now + 250000) ∧
            (t.counters.get (.link (.cable c) .trainingRetries)).toNat =
              min ((s.counters.get (.link (.cable c) .trainingRetries)).toNat + 1) (2 ^ 32 - 1)) ∧
        (((s.cable c).state = .dark ∨ (s.cable c).state = .parked ∨ (s.cable c).state = .quarantined) →
          (t.cable c).state = (s.cable c).state)) ∧
      t.counters.get (.link (.cable c) .faults) = s.counters.get (.link (.cable c) .faults) ∧
      ∀ d, d ≠ c → (t.cable d).state = (s.cable d).state ∧ (t.cable d).neighbour = (s.cable d).neighbour)

/-- R37, R43: DRAIN PORT and LOOP TEST are answered RANGE for F or no port, else BUSY with such an operation pending, else STATE
outside ACTIVE. Else DRAIN PORT takes the port to DRAINING with the drain pending, its timeout clamped into 1..10,000 ms; a pending
loop test is gone, answered CANCELLED; PORT-STATE is raised; the selector evaluates; the port keeps its neighbour entry, and beside
that only what the ports send changes. LOOP TEST is pending, with the port's echo counter as its number, and its ECHO is called for.
Neither forms its own reply yet. -/
def Obligations.DrainPort : Prop :=
  ∀ (s : State) (r : Request) (rest : List Request), s.BusyLaw →
    (s.Serves .drainPort r rest →
      (3 < (r.op 0).toNat → exec .drainPort s = .next ((s.popped rest).sendReply (r.reply .range []))) ∧
      (∀ c : Cable, (r.op 0).toNat = c.number →
        ((s.cable c).drain ≠ none → exec .drainPort s = .next ((s.popped rest).sendReply (r.reply .busy []))) ∧
        ((s.cable c).drain = none → (s.cable c).state ≠ .active →
          exec .drainPort s = .next ((s.popped rest).sendReply (r.reply .state []))) ∧
        ((s.cable c).drain = none → (s.cable c).state = .active → ∃ t, exec .drainPort s = .next t ∧
          (((s.popped rest).modCable c fun u =>
            { u with
              state := .draining
              drain := some ⟨⟨r.arrival, r.msg.origin, r.msg.tag⟩,
                some (s.now + max 1 (min 10000 (r.op 1).toNat) * 125000), 0, false⟩
              loop := none
              echoDue := none
              helloDue := false }).raise .portState).select.Quiet t ∧
          s.EndsWith t (match (s.cable c).loop with
            | some l => [⟨l.op.arrival, l.op.origin, l.op.tag, 0x14#8, .cancelled, []⟩]
            | none => [])))) ∧
    (s.Serves .loopTest r rest →
      (3 < (r.op 0).toNat → exec .loopTest s = .next ((s.popped rest).sendReply (r.reply .range []))) ∧
      (∀ c : Cable, (r.op 0).toNat = c.number →
        ((s.cable c).loop ≠ none → exec .loopTest s = .next ((s.popped rest).sendReply (r.reply .busy []))) ∧
        ((s.cable c).loop = none → (s.cable c).state ≠ .active →
          exec .loopTest s = .next ((s.popped rest).sendReply (r.reply .state []))) ∧
        ((s.cable c).loop = none → (s.cable c).state = .active →
          exec .loopTest s = .next (((s.popped rest).modCable c fun u =>
            { u with
              echoCounter := u.echoCounter + 1#8
              loop := some ⟨⟨r.arrival, r.msg.origin, r.msg.tag⟩, u.echoCounter, none, none⟩
              echoDue := some u.echoCounter }).arbitrate (.cable c)))))

/-- R41: RESTORE PORT is answered RANGE for F or no port and STATE in DARK, TRAINING, GREETING and ACTIVE. In PARKED, QUARANTINED
and DRAINING the port goes to TRAINING when the cable is present and DARK when it is absent, its suspect flag cleared; from DRAINING
its queues are empty, its drain is gone, answered CANCELLED before the request's DONE, and its neighbour entry is absent. What it
has in transmission is cut: the word that is leaving and then ABORT are owed, or the IDLE after a check word that has left (R3). No other port changes state. -/
def Obligations.RestorePort : Prop :=
  ∀ (s : State) (r : Request) (rest : List Request), s.BusyLaw → s.ServiceLaw → s.TransmitLaw → s.Serves .restorePort r rest →
    (3 < (r.op 0).toNat → exec .restorePort s = .next ((s.popped rest).sendReply (r.reply .range []))) ∧
    (∀ c : Cable, (r.op 0).toNat = c.number →
      ((s.cable c).state = .dark ∨ (s.cable c).state = .training ∨ (s.cable c).state = .greeting ∨
          (s.cable c).state = .active →
        exec .restorePort s = .next ((s.popped rest).sendReply (r.reply .state []))) ∧
      ((s.cable c).state = .parked ∨ (s.cable c).state = .quarantined ∨ (s.cable c).state = .draining →
        ∃ t, exec .restorePort s = .next t ∧
          (t.cable c).state = (if (s.cable c).level then .training else .dark) ∧ (t.cable c).suspect = false ∧
          ((s.cable c).level = true → (t.cable c).budget = 0) ∧
          ((s.cable c).state = .draining → (t.port (.cable c)).queues = Queues.empty) ∧
          (t.cable c).drain = none ∧ (t.cable c).neighbour = none ∧ (t.port (.cable c)).tx = none ∧
          (∀ x, (s.port (.cable c)).tx = some x →
            (t.port (.cable c)).owed = x.afterCut (s.port (.cable c)).owed s.now) ∧
          s.EndsWith t ((if (s.cable c).state = .draining then s.cancelledReplies c else []) ++ [r.reply .done []]) ∧
          t.notices.flags.getLsbD 0 = true ∧ t.ctl.queue = rest ∧
          ∀ d, d ≠ c → (t.cable d).state = (s.cable d).state ∧ (t.cable d).neighbour = (s.cable d).neighbour))

/-! ### Resets -/

/-- R193, R9, R47, R65, R91, R118, R132, R157, R180, R183: what pin reset leaves, from whatever state. The strap sample gives frame
number, role and admit-on-insert; the pin levels give the detect levels, F's state and the sampled input levels. Every receiver
collects nothing and hunts nothing: it waits for a control word; a cable port's is not aligned, and F's exactly while F is ACTIVE,
where it aligns by itself. Commands that wait go on waiting (the model's choice, log entry 2). -/
def Obligations.PinReset : Prop :=
  ∀ (pins : PinLevels) (s : State), ∃ t, exec (.pinReset pins) s = .next t ∧
    t.straps = ⟨pins.fn, pins.src, pins.admits⟩ ∧ t.frame.val = pins.fn.toNat ∧
    (∀ c : Cable, (t.cable c).state =
        (if pins.cd.get c then (if pins.admits then .training else .parked) else .dark) ∧
      (t.cable c).admits = pins.admits ∧ (t.cable c).eligible = true ∧ (t.cable c).rate = .full ∧
      (t.cable c).suspect = false ∧ (t.cable c).budget = 0 ∧ (t.cable c).lastActive = none ∧
      (t.cable c).cleanRun = none ∧ (t.cable c).level = pins.cd.get c ∧ (t.cable c).inserted = false ∧
      (t.cable c).removed = false ∧ (t.cable c).echoCounter = 0#8 ∧ (t.cable c).neighbour = none ∧
      (t.cable c).drain = none ∧ (t.cable c).loop = none) ∧
    t.fActive = pins.fpres ∧
    (∀ p : Port, (t.port p).queues = ⟨[], [], [], [], []⟩ ∧ (t.port p).bulkPass = 0 ∧ (t.port p).tx = none ∧
      (t.port p).owed = [] ∧ (t.port p).rx = .awaitControl) ∧
    (∀ c : Cable, (t.port (.cable c)).aligned = false) ∧ (t.port .f).aligned = pins.fpres ∧ t.stamps = [] ∧ t.stampNs = 0#48 ∧
    t.pool = ⟨Vector.replicate 96 none, List.finRange 96, Vector.replicate 64 0, 16⟩ ∧
    (∀ n : StreamNo, (t.entry n).valid = false ∧ t.run n = ⟨none, none, true, none, false, none⟩) ∧
    t.time.counter = 0#72 ∧ t.time.role = (if pins.src then .source else .follow) ∧
    t.time.state = (if pins.src then .source else .free) ∧ t.time.settings = ⟨0, 23, 3, 6, 20000, 100, 10⟩ ∧
    t.time.correction = 0 ∧ t.time.integrator = 0 ∧ t.time.heldRate = false ∧ t.time.holdoverSince = none ∧
    t.time.queryAt = (if pins.src then none else some (t.now + 2 ^ 23)) ∧ t.time.queryNumber = 0#8 ∧
    t.time.outstanding = none ∧ t.time.history = [] ∧ t.time.outlierRun = 0 ∧ t.time.missedRun = 0 ∧
    t.time.lockRun = 0 ∧ t.time.lastOffset = none ∧
    t.selector.upstream = none ∧ (∀ c : Cable, t.selector.mute.get c = none) ∧ t.selector.lossReport = none ∧
    (∀ i : Fin 8, t.trig.map[i] = ⟨false, 0, 0, 1, none⟩) ∧ t.trig.recent = [] ∧ t.trig.schedule = [] ∧
    (∀ i : Fin 4, t.trig.inputs[i] = ⟨.off, 0, 0, pins.tri[i], none⟩ ∧ t.trig.pins[i] = ⟨.activeHigh, 8, none⟩) ∧
    t.trig.lead = 50000 ∧ t.trig.originCounter = 0#8 ∧
    (∀ k : Fin 2, t.cadence[k] = ⟨⟨.stopped, 1000000, 0, 500000, false⟩, none, none, none⟩) ∧
    t.ctl.queue = [] ∧ t.ctl.restartPending = false ∧ (∀ f : Frame, t.ctl.routes[f] = ⟨none, none⟩) ∧
    t.notices = ⟨0#12, 0xFFF#12, t.frame⟩ ∧ (∀ i : CounterId, t.counters.get i = 0#32) ∧ t.pending = s.pending

/-- R169, R166, R66: a HUB RESTART served with local authority offers its DONE reply to F's control queue: with room there, the reply
joins and the restart is pending; else the reply is undeliverable and the restart takes effect at once. A pending restart stalls
every request; it takes effect when the transmission of that reply ends, before F's arbiter chooses again, and when F goes DOWN;
while the reply waits on an active F it does not. -/
def Obligations.HubRestart : Prop :=
  ∀ s : State,
    (∀ (r : Request) (rest : List Request), s.Serves .hubRestart r rest →
      (s.fActive = true → (s.port .f).queues.control.length < 8 →
        exec .hubRestart s = .next (((((s.popped rest).modQueues .f fun q =>
          { q with control := q.control ++
            [⟨.reply ⟨.frame r.msg.origin, s.frame, r.msg.tag, 15#4, r.msg.kind, 0#4, []⟩, true⟩] }).arbitrate .f).count
              (.control .repliesIssued)).modCtl fun x => { x with restartPending := true })) ∧
      (s.fActive = false ∨ 8 ≤ (s.port .f).queues.control.length →
        exec .hubRestart s = .next ((s.popped rest).count (.control .repliesUndeliverable)).restart)) ∧
    (s.ctl.restartPending = true →
      (∀ k : Option ReqKind, exec (requestRow k) s = .next s) ∧
      (∀ x, (s.port .f).tx = some x → x.source = .control true →
        exec (.transmissionEnds .f) s = .next (s.endTx .f).restart ∧
        exec .restartTakesEffect s = .next (s.endTx .f).restart) ∧
      ((∀ t ∈ (s.port .f).tx, t.source ≠ .control true) →
        ((s.fActive = false ∨ ∀ e ∈ (s.port .f).queues.control, e.restart = false) →
          exec .restartTakesEffect s = .next s.restart) ∧
        (s.fActive = true → (∃ e ∈ (s.port .f).queues.control, e.restart = true) →
          exec .restartTakesEffect s = .next s)) ∧
      (s.fActive = true →
        exec .fEntersDown s = .next ((({ s with fActive := false } : State).flush .f).receiverOff .f).restart)) ∧
    (s.ctl.restartPending = false → exec .restartTakesEffect s = .next s)

/-- R48, R66, R92, R119, R133, R158, R181, R182, R183, R192, R199: what the restart leaves of each block. A transmission in progress
is cut, and ABORT is owed after the word that is leaving, or IDLE after a check word that has left. That the suspect flag is kept also on a port the restart takes to DARK is the model's choice between R48
and R22 (log entry 15). -/
def Obligations.RestartEffect : Prop :=
  ∀ s t : State, s.RateLaw → t = s.restart →
    (∀ c : Cable,
      ((s.cable c).state = .training ∨ (s.cable c).state = .greeting ∨ (s.cable c).InService →
        ((s.cable c).level = true → t.Trains c s.now) ∧ ((s.cable c).level = false → (t.cable c).state = .dark)) ∧
      ((s.cable c).state = .dark ∨ (s.cable c).state = .parked ∨ (s.cable c).state = .quarantined →
        (t.cable c).state = (s.cable c).state) ∧
      ((t.cable c).state ≠ .training → (t.cable c).budget = (s.cable c).budget) ∧
      (t.cable c).neighbour = none ∧ (t.cable c).drain = none ∧ (t.cable c).loop = none ∧
      (t.cable c).returnDue = none ∧ (t.cable c).cleanRun = none ∧
      (t.cable c).admits = (s.cable c).admits ∧ (t.cable c).eligible = (s.cable c).eligible ∧
      (t.cable c).rate = (s.cable c).rate ∧ (t.cable c).suspect = (s.cable c).suspect ∧
      (t.cable c).lastActive = (s.cable c).lastActive ∧ (t.cable c).level = (s.cable c).level ∧
      (t.cable c).inserted = (s.cable c).inserted ∧ (t.cable c).removed = (s.cable c).removed ∧
      (t.cable c).echoCounter = (s.cable c).echoCounter) ∧
    t.fActive = s.fActive ∧
    (∀ p : Port, (t.port p).queues = ⟨[], [], [], [], []⟩ ∧ (t.port p).bulkPass = 0 ∧ (t.port p).tx = none ∧
      (∀ x, (s.port p).tx = some x → (t.port p).owed = x.afterCut (s.port p).owed s.now) ∧
      ((s.port p).tx = none → (t.port p).owed = (s.port p).owed)) ∧
    t.pool = ⟨Vector.replicate 96 none, List.finRange 96, Vector.replicate 64 0, s.pool.watermark⟩ ∧
    (∀ n : StreamNo, t.entry n = s.entry n ∧
      t.run n = ⟨none, none, (s.entry n).gateLine.isNone, none, false, none⟩) ∧
    t.time.counter = s.time.counter ∧ t.time.role = s.time.role ∧ t.time.settings = s.time.settings ∧
    t.time.queryNumber = s.time.queryNumber ∧ t.time.heldRate = s.time.heldRate ∧
    t.time.integrator = s.time.integrator ∧ t.time.outstanding = none ∧ t.time.history = [] ∧
    t.time.outlierRun = 0 ∧ t.time.missedRun = 0 ∧ t.time.lockRun = 0 ∧ t.time.lastOffset = none ∧
    (s.time.role = .follow → t.time.queryAt = some (s.now + 2 ^ s.time.settings.interval)) ∧
    (s.time.state.following → s.time.heldRate = true → t.time.state = .holdover ∧
      t.time.correction = s.time.integrator ∧ t.time.holdoverSince = some s.now) ∧
    (s.time.state.following → s.time.heldRate = false → t.time.state = .free ∧
      t.time.correction = s.time.correction) ∧
    (¬ s.time.state.following → t.time.state = s.time.state ∧ t.time.correction = s.time.correction ∧
      t.time.holdoverSince = s.time.holdoverSince) ∧
    t.selector.upstream = none ∧ (∀ c : Cable, t.selector.mute.get c = none) ∧ t.selector.lossReport = none ∧
    t.trig.recent = [] ∧ t.trig.schedule = [] ∧ t.trig.map = s.trig.map ∧ t.trig.lead = s.trig.lead ∧
    t.trig.originCounter = s.trig.originCounter ∧
    (∀ i : Fin 4, t.trig.inputs[i] = { s.trig.inputs[i] with lastOrigin := none } ∧
      t.trig.pins[i] = { s.trig.pins[i] with activeUntil := none }) ∧
    t.cadence = s.cadence ∧
    t.ctl = ⟨[], s.ctl.routes, false⟩ ∧ t.notices = { s.notices with flags := 0#12 } ∧
    (∀ i : CounterId, t.counters.get i = 0#32) ∧
    t.straps = s.straps ∧ t.frame = s.frame ∧ t.now = s.now ∧ t.stampNs = s.stampNs ∧
    t.stamps = s.stamps ∧ t.pending = s.pending

/-! ### The receiver -/

/-- R11, R12, R13, R10, R14, R30: a receive fault on F is counted and changes nothing else but what the receiver waits for. On a cable
port it is counted and the error budget rises by one, and a budget of 8 stays 8. After a heading fault, a bad count field and an
overrun the receiver hunts; after a failed check word and after an address-code fault it waits for a control word, so that an overrun
of that message is no second fault; a control word that cut the message short lets the next one start. -/
def Obligations.ReceiveFaults : Prop :=
  ∀ (s : State) (p : Port), s.BusyLaw →
    ∀ (i : Instr) (x : RxPhase) (k : LinkCounter),
      (s.collects p = true ∧
        ((i = .headingFault p ∧ x = .hunting ∧ k = .headingFaults) ∨
          (i = .checkFailure p .checkWord ∧ x = .awaitControl ∧ k = .checkFailures) ∨
          (i = .checkFailure p .countField ∧ x = .hunting ∧ k = .checkFailures) ∨
          (i = .checkFailure p .cutShort ∧ x = .ready ∧ k = .checkFailures) ∨
          (i = .addressCodeFault p ∧ x = .awaitControl ∧ k = .addressFaults))) ∨
      (s.hears p = true ∧ (s.port p).rx = .afterCheck ∧
        i = .checkFailure p .overrun ∧ x = .hunting ∧ k = .checkFailures) →
      (p = .f → exec i s = .next ((s.setRx .f x).count (.link .f k))) ∧
      ∀ c, p = .cable c →
        ((s.cable c).budget < 7 →
          exec i s = .next (((s.setRx p x).count (.link p k)).modCable c fun u => { u with budget := u.budget + 1 })) ∧
        (8 ≤ (s.cable c).budget → exec i s = .next ((s.setRx p x).count (.link p k)))

/-- R30, R32, R33, R24, R35: the receive fault that brings the budget to 8. In TRAINING it fails the attempt: a training retry is
counted, the budget becomes 0, the next attempt begins, and no fault is counted. In GREETING, ACTIVE and DRAINING it is a fault: the
port goes to QUARANTINED, or to TRAINING, by its suspect flag and its last entry to ACTIVE. -/
def Obligations.BudgetFull : Prop :=
  ∀ (s : State) (c : Cable) (i : Instr) (k : LinkCounter), s.BusyLaw →
    (s.collects (.cable c) = true ∧
      ((i = .headingFault (.cable c) ∧ k = .headingFaults) ∨
        (i = .checkFailure (.cable c) .checkWord ∧ k = .checkFailures) ∨
        (i = .checkFailure (.cable c) .countField ∧ k = .checkFailures) ∨
        (i = .checkFailure (.cable c) .cutShort ∧ k = .checkFailures) ∨
        (i = .addressCodeFault (.cable c) ∧ k = .addressFaults))) ∨
      (s.hears (.cable c) = true ∧ (s.port (.cable c)).rx = .afterCheck ∧ i = .checkFailure (.cable c) .overrun ∧
        k = .checkFailures) →
    (s.cable c).budget = 7 → ∃ t, exec i s = .next t ∧ s.Counts t (.link (.cable c) k) 1 ∧
      ((s.cable c).state = .training →
        (t.cable c).state = .training ∧ (t.cable c).budget = 0 ∧ (t.cable c).goodRun = 0 ∧
          (t.cable c).attemptEnds = some (s.now + 250000) ∧ s.Counts t (.link (.cable c) .trainingRetries) 1 ∧
          t.counters.get (.link (.cable c) .faults) = s.counters.get (.link (.cable c) .faults) ∧
          (t.cable c).suspect = (s.cable c).suspect ∧ t.notices = s.notices ∧ s.OthersKept t c) ∧
      ((s.cable c).state ≠ .training → s.Faulted t c ∧ ((t.cable c).state = .quarantined → (t.cable c).budget = 8))

/-- R15, R10, R9, R16, R29, R31: an ABORT while a message is collected is counted, and no more, and the receiver waits for a control
word (log entry 12); a control word lets the next message start; a message on a receiver that collects none changes nothing and
counts nothing; in TRAINING and GREETING a good message of a kind other than HELLO and ECHO is discarded and counted; on F a HELLO
or an ECHO is discarded without count. -/
def Obligations.ReceiverGate : Prop :=
  ∀ (s : State) (p : Port),
    (s.collects p = true →
      exec (.abortedMessage p) s = .next ((s.setRx p .awaitControl).count (.link p .aborted))) ∧
    (s.hears p = true → exec (.huntEnds p) s = .next (s.setRx p .ready)) ∧
    (s.hears p = false → exec (.huntEnds p) s = .next s) ∧
    (s.collects p = false → ∀ (stamp : Ago) (v : Verdict), v ≠ .checkFailure .overrun →
      exec (commandOf p stamp v) s = .next s) ∧
    (∀ c, p = .cable c → s.collects p = true → ((s.cable c).state = .training ∨ (s.cable c).state = .greeting) →
      ∀ (stamp : Ago) (m : LinkMsg), kindOf m ≠ .hello → kindOf m ≠ .echo →
        exec (takingOf p stamp m) s = .next ((s.setRx p .afterCheck).count (.link p .notInService))) ∧
    (p = .f → s.collects p = true → ∀ (stamp : Ago) (m : LinkMsg), kindOf m = .hello ∨ kindOf m = .echo →
      exec (takingOf p stamp m) s = .next (s.setRx p .afterCheck))

/-! ### Port states -/

/-- R21, R22, R35, R36: a detect edge sets the level and the inserted or removed flag and raises PRESENCE. To absent it takes
TRAINING, GREETING, ACTIVE and DRAINING to DARK, to present DARK to TRAINING or PARKED by admit-on-insert; every other state is
kept. Entering DARK clears the suspect flag; no fault is counted. A sample equal to the level is no edge. R45, R46: F's presence
moves F alone; on going DOWN (no restart pending) its queues are flushed and no flag is raised. A port that leaves service owes its
CANCELLED replies. -/
def Obligations.PresenceEdges : Prop :=
  ∀ s : State,
    (∀ (c : Cable) (present : Bool), (s.cable c).level = present → exec (.detectEdge c present) s = .next s) ∧
    (∀ (c : Cable) (present : Bool), (s.cable c).level ≠ present → ∃ t, exec (.detectEdge c present) s = .next t ∧
      (t.cable c).level = present ∧ (t.cable c).inserted = ((s.cable c).inserted || present) ∧
      (t.cable c).removed = ((s.cable c).removed || !present) ∧ t.Pending .presence ∧
      t.counters.get (.link (.cable c) .faults) = s.counters.get (.link (.cable c) .faults) ∧ s.OthersKept t c ∧
      (present = true → (s.cable c).state = .dark →
        ((s.cable c).admits = true → t.Trains c s.now) ∧ ((s.cable c).admits = false → (t.cable c).state = .parked) ∧
          t.Pending .portState) ∧
      (present = false → ((s.cable c).state = .training ∨ (s.cable c).state = .greeting ∨ (s.cable c).InService) →
        (t.cable c).state = .dark ∧ (t.cable c).suspect = false ∧ t.Pending .portState ∧
          ((s.cable c).InService → s.LeftService t c)) ∧
      s.EndsWith t (if present = false ∧ (s.cable c).InService then s.cancelledReplies c else []) ∧
      ((present = true ∧ (s.cable c).state ≠ .dark) ∨
          (present = false ∧ ((s.cable c).state = .dark ∨ (s.cable c).state = .parked ∨ (s.cable c).state = .quarantined)) →
        (t.cable c).state = (s.cable c).state ∧ (t.cable c).suspect = (s.cable c).suspect)) ∧
    (s.fActive = false → ∀ (l : List Owed) (b : Nat), l = (s.port .f).owed.filter (fun x => decide (s.now < x.ends)) →
      (l = [] → b = s.now) → (∀ x, l.getLast? = some x → b = x.ends) →
      exec .fEntersActive s = .next (({ s with fActive := true }.modPort .f fun u =>
        { u with aligned := true, rx := .awaitControl, owed := l ++ [Owed.mk .idle b (b + 2)] }).arbitrate .f)) ∧
    (s.fActive = true → s.ctl.restartPending = false → ∃ t, exec .fEntersDown s = .next t ∧
      t.fActive = false ∧ (t.port .f).queues = Queues.empty ∧ (t.port .f).tx = none ∧ (t.port .f).aligned = false ∧
      s.Counts t (.traffic .f .flushed) (s.port .f).queues.total ∧ s.Counts t (.traffic .f .cut) ((s.port .f).cutQueued s.now) ∧
      t.cables = s.cables ∧ t.notices = s.notices ∧ t.ctl = s.ctl ∧ ∀ c, t.port (.cable c) = s.port (.cable c))

/-- R23, R24, R25, R9, R32, R35, R168: alignment gained in TRAINING sends the first ECHO. Alignment lost is, in TRAINING, the end of
the good-return run, of the outstanding echo and of what waits to be sent; in GREETING, ACTIVE and DRAINING with the cable present,
a fault; in DARK, PARKED and QUARANTINED nothing; on F the end of a hunt. Retraining seen takes ACTIVE and DRAINING to TRAINING
without a fault. Leaving service ends with the CANCELLED replies of the port's drain, with the count of removed and cut sample and
trigger messages, and of its loop test, in that order. That an ECHO takes its number, and its 100 µs begin, when it is called for is
the model's choice (log entry 19). -/
def Obligations.Alignment : Prop :=
  ∀ (s : State) (c : Cable),
    ((s.cable c).state = .training → (s.port (.cable c)).aligned = false → (s.cable c).outstanding = none →
      exec (.receiverAligned c) s = .next (((s.modPort (.cable c) fun u =>
        { u with aligned := true, rx := .awaitControl }).modCable c fun u =>
          { u with
            echoCounter := u.echoCounter + 1#8
            outstanding := some ⟨u.echoCounter, s.now + 12500⟩
            echoDue := some u.echoCounter }).arbitrate (.cable c))) ∧
    ((s.cable c).state = .training →
      exec (.lossOfAlignment (.cable c)) s = .next ((s.modPort (.cable c) fun u =>
        { u with aligned := false, rx := .awaitControl }).modCable c fun u =>
          { u with goodRun := 0, outstanding := none, echoDue := none, returnDue := none })) ∧
    ((s.cable c).level = true → ((s.cable c).state = .greeting ∨ (s.cable c).InService) →
      ∃ t, exec (.lossOfAlignment (.cable c)) s = .next t ∧ s.Faulted t c) ∧
    ((s.cable c).state = .dark ∨ (s.cable c).state = .parked ∨ (s.cable c).state = .quarantined →
      exec (.lossOfAlignment (.cable c)) s = .next s) ∧
    (s.fActive = true → exec (.lossOfAlignment .f) s = .next (s.setRx .f .awaitControl)) ∧
    ((s.cable c).InService → ∃ t, exec (.retrainingSeen c) s = .next t ∧ t.Trains c s.now ∧ s.LeftService t c ∧
      s.EndsWith t (s.cancelledReplies c) ∧ s.OthersKept t c ∧ (t.cable c).suspect = (s.cable c).suspect ∧ t.Pending .portState ∧
      t.counters.get (.link (.cable c) .faults) = s.counters.get (.link (.cable c) .faults))

/-- R24, R26, R25, R122, R30, R34, R40: the run-outs of a port unit's timers. A failed training attempt is counted as a retry and
the next begins; an echo wait without a return ends the good-return run; on an aligned receiver both send a new ECHO. The greeting
wait counts a retry and goes to TRAINING. HELLO is called for each 1 ms in GREETING and 1 s after the last in service. The decay
lowers a budget by one; the clean run clears the suspect flag; the end of the parking HELLO leaves the transmitter idle. Three points
are the model's choice: an attempt that times out leaves the error budget (log entry 20), an ECHO's 100 µs begin when it is
called for (log entry 19), and an ECHO that has not started when its attempt or its 100 µs end is not sent (log entry 36). -/
def Obligations.PortTimers : Prop :=
  ∀ (s : State) (c : Cable),
    ((s.cable c).state = .training →
      ((s.port (.cable c)).aligned = false → exec (.trainingAttemptTimeout c) s =
        .next ((s.count (.link (.cable c) .trainingRetries)).modCable c fun u =>
          { u with goodRun := 0, outstanding := none, echoDue := none, attemptEnds := some (s.now + 250000) })) ∧
      ((s.port (.cable c)).aligned = true → exec (.trainingAttemptTimeout c) s =
        .next (((s.count (.link (.cable c) .trainingRetries)).modCable c fun u =>
          { u with
            goodRun := 0
            attemptEnds := some (s.now + 250000)
            echoCounter := u.echoCounter + 1#8
            outstanding := some ⟨u.echoCounter, s.now + 12500⟩
            echoDue := some u.echoCounter }).arbitrate (.cable c))) ∧
      ((s.cable c).outstanding ≠ none → (s.port (.cable c)).aligned = true → exec (.echoWaitExpiry c) s =
        .next ((s.modCable c fun u =>
          { u with
            goodRun := 0
            echoCounter := u.echoCounter + 1#8
            outstanding := some ⟨u.echoCounter, s.now + 12500⟩
            echoDue := some u.echoCounter }).arbitrate (.cable c)))) ∧
    ((s.cable c).state = .greeting →
      (∃ t, exec (.greetingWaitExpiry c) s = .next t ∧ t.Trains c s.now ∧ t.Pending .portState ∧
        s.Counts t (.link (.cable c) .trainingRetries) 1 ∧ s.OthersKept t c ∧
        (t.cable c).suspect = (s.cable c).suspect ∧
        t.counters.get (.link (.cable c) .faults) = s.counters.get (.link (.cable c) .faults)) ∧
      exec (.helloRepeat c) s = .next ((s.modCable c fun u =>
        { u with repeatAt := some (s.now + 125000), helloDue := true }).arbitrate (.cable c))) ∧
    ((s.cable c).InService →
      exec (.helloRefresh c) s = .next ((s.modCable c fun u => { u with helloDue := true }).arbitrate (.cable c))) ∧
    exec (.decayStep c) s = .next (s.modCable c fun u =>
      { u with
        budget := u.budget - 1
        decayAt := if u.decayAt ≤ s.now then u.decayAt + 125000 else u.decayAt }) ∧
    ((s.cable c).cleanRun ≠ none →
      exec (.cleanRunTimerRunsOut c) s = .next (s.modCable c fun u => { u with suspect := false, cleanRun := none })) ∧
    (∀ x, (s.port (.cable c)).tx = some x → x.source = .parking →
      exec (.parkingHelloEnds c) s = .next (s.modPort (.cable c) fun u => { u with tx := none }))

/-! ### Transmitters -/

/-- R25, R58, R59, R60, R18, R121, R122: what an arbiter chooses, and that it chooses only when it makes choices with no
transmission in progress. First the port's link maintenance, a return before an own ECHO before a HELLO; then the head of the
timing, trigger and control queues; then urgent before bulk, unless seven urgent entries have passed a waiting bulk entry. The
choice leaves where it waited, and its message is built from the values that stand (the t3 of a TIME ANSWER is written later); the
bulk pass count rises when an urgent entry is started past a waiting bulk entry, and returns to 0 when a bulk entry is started; a
HELLO's start is where its 1 s refresh begins. A cable port's arbiter makes choices in TRAINING, GREETING and ACTIVE, and in DRAINING
until the drain has closed, F's while F is ACTIVE; in every other state none. -/
def Obligations.ArbiterChoice : Prop :=
  ∀ s : State,
    (∀ c : Cable,
      ((s.cable c).state = .training ∨ (s.cable c).state = .greeting ∨ (s.cable c).state = .active →
        s.arbiterRuns (.cable c) = true) ∧
      ((s.cable c).state = .draining →
        ((∃ d, (s.cable c).drain = some d ∧ d.closed = true) → s.arbiterRuns (.cable c) = false) ∧
        ((∀ d, (s.cable c).drain = some d → d.closed = false) → s.arbiterRuns (.cable c) = true)) ∧
      ((s.cable c).state = .dark ∨ (s.cable c).state = .parked ∨ (s.cable c).state = .quarantined →
        s.arbiterRuns (.cable c) = false)) ∧
    s.arbiterRuns .f = s.fActive ∧
    (∀ c : Cable,
      (∀ n, (s.cable c).returnDue = some n → s.choice (.cable c) = some (.returned n)) ∧
      ((s.cable c).returnDue = none → ∀ n, (s.cable c).echoDue = some n → s.choice (.cable c) = some (.ownEcho n)) ∧
      ((s.cable c).returnDue = none → (s.cable c).echoDue = none → (s.cable c).helloDue = true →
        s.choice (.cable c) = some .hello)) ∧
    (∀ p : Port, (∀ c, p = .cable c → (s.cable c).maintenance = none) →
      (∀ e l, (s.port p).queues.timing = e :: l → s.choice p = some (.timing e)) ∧
      ((s.port p).queues.timing = [] →
        (∀ m l, (s.port p).queues.trigger = m :: l → s.choice p = some (.trigger m)) ∧
        ((s.port p).queues.trigger = [] →
          (∀ e l, (s.port p).queues.control = e :: l → s.choice p = some (.control e)) ∧
          ((s.port p).queues.control = [] →
            (∀ i l, (s.port p).queues.urgent = i :: l → ((s.port p).queues.bulk = [] ∨ (s.port p).bulkPass < 7) →
              s.choice p = some (.urgent i)) ∧
            (∀ i l, (s.port p).queues.bulk = i :: l → ((s.port p).queues.urgent = [] ∨ 7 ≤ (s.port p).bulkPass) →
              s.choice p = some (.bulk i)) ∧
            ((s.port p).queues.urgent = [] → (s.port p).queues.bulk = [] → s.choice p = none))))) ∧
    (∀ p : Port,
      (s.arbiterRuns p = true → (s.port p).tx = none → ∀ ch, s.choice p = some ch → s.arbitrate p = s.begin p ch) ∧
      (s.arbiterRuns p = false ∨ (s.port p).tx ≠ none ∨ s.choice p = none → s.arbitrate p = s) ∧
      (∀ c, p = .cable c →
        (∀ n, s.begin p (.returned n) = (s.modCable c fun u => { u with returnDue := none }).transmit p
          (.echo ⟨true, n⟩) .maintenance) ∧
        (∀ n, s.begin p (.ownEcho n) = (s.modCable c fun u => { u with echoDue := none }).transmit p
          (.echo ⟨false, n⟩) .maintenance) ∧
        s.begin p .hello = (s.modCable c fun u =>
          { u with helloDue := false, refreshAt := some (s.now + 125000000) }).transmit p
            (.hello ⟨s.frame, s.upstreamFrame, s.rank, s.time.role, false⟩) .maintenance) ∧
      (∀ n, s.begin p (.timing (.query n)) = (s.modQueues p fun q => { q with timing := q.timing.tail }).transmit p
        (.query n) .timing) ∧
      (∀ n t2, s.begin p (.timing (.answer n t2)) = (s.modQueues p fun q => { q with timing := q.timing.tail }).transmit p
        (.answer ⟨s.quality.code, s.rank, n, t2, 0#48⟩) .timing) ∧
      (∀ m, s.begin p (.trigger m) = (s.modQueues p fun q => { q with trigger := q.trigger.tail }).transmit p
        (.trigger m) .trigger) ∧
      (∀ (m : ControlMsg) (b : Bool), s.begin p (.control ⟨m, b⟩) =
        (s.modQueues p fun q => { q with control := q.control.tail }).transmit p
          (match m with | .request m => .request m | .reply m => .reply m | .notice m => .notice m) (.control b)) ∧
      (∀ i h, s.pool.slots[i] = some h → ∀ m : LinkMsg,
        m = .sample ⟨h.stream, h.quality.code, h.seq, h.stamp, h.samples⟩ →
        s.begin p (.urgent i) = (s.modPort p fun u =>
          { u with
            queues := { u.queues with urgent := u.queues.urgent.tail }
            bulkPass := u.bulkPass + if u.queues.bulk = [] then 0 else 1 }).transmit p m (.sample i) ∧
        s.begin p (.bulk i) = (s.modPort p fun u =>
          { u with queues := { u.queues with bulk := u.queues.bulk.tail }, bulkPass := 0 }).transmit p m (.sample i)))

/-- R1, R3, R8, R17, R18, R101, R43, R58: words on the link. A transmission's first word leaves at once when no word is owed, else
after the IDLE owed, or one control word after the ABORT owed (log entries 11 and 31), and its last word the length of its kind later. The first word's passing gives the transmit stamp: RT_ns of that tick, as it
stood when the tick began (R109, R112), which a TIME ANSWER carries as t3, the outstanding
query as t1, and a loop test as the start of its 100 µs. At an end one IDLE is owed. At a cut the message's word that is leaving, or
before its first word the IDLE still owed, leaves whole; then one ABORT for one word time, in place of the next word; then what the
port's state calls for. A transmission whose check word has left cannot be cut: an event that would cut it ends it, uncounted, and the
IDLE after it is owed. And what the port's line shows. -/
def Obligations.WordsOnTheLink : Prop :=
  ∀ (s : State) (p : Port) (w : Nat), w = (if s.rateOf p = .half then 4 else 2) →
    (∀ (m : LinkMsg) (src : TxSource) (start : Nat),
      ((s.port p).owed = [] → start = s.now) →
      (∀ l b e, (s.port p).owed = l ++ [⟨.idle, b, e⟩] → start = max s.now e) →
      (∀ l b e, (s.port p).owed = l ++ [⟨.abort, b, e⟩] → start = max s.now (e + w)) →
      (∀ l y b e, (s.port p).owed = l ++ [⟨.word y, b, e⟩] → start = max s.now e) →
      ∀ u, u = s.modPort p (fun x => { x with tx := some ⟨m, src, start, start + msgLength m * w, none⟩ }) →
        s.transmit p m src = if start ≤ s.now then u.firstWord p else u) ∧
    (∀ x, (s.port p).tx = some x → x.stamp = none → ∀ t, t = s.firstWord p →
      s.Quiet t ∧ (∀ q, q ≠ p → t.port q = s.port q) ∧
      (∃ y, y = { x with msg := y.msg, stamp := some s.stampNs } ∧
        t.port p = { s.port p with tx := some y, owed := [] } ∧
        (∀ a, x.msg = .answer a → y.msg = .answer { a with t3 := s.stampNs }) ∧
        (kindOf x.msg ≠ .answer → y.msg = x.msg)) ∧
      (∀ n, x.msg = .query n → t.cables = s.cables ∧
        (∀ o, s.time.outstanding = some o → o.number = n → p = .cable o.port →
          t.time.outstanding = some { o with t1 := some s.stampNs }) ∧
        ((∀ o, s.time.outstanding = some o → o.number ≠ n ∨ p ≠ .cable o.port) → t.time = s.time)) ∧
      (∀ n c, x.msg = .echo ⟨false, n⟩ → p = .cable c → t.time = s.time ∧
        (∀ l, (s.cable c).loop = some l → l.number = n → l.sent = none → (t.cable c).loop =
          some { l with sent := some s.stampNs, timeout := some (s.now + 12500) }) ∧
        ((∀ l, (s.cable c).loop = some l → l.number ≠ n ∨ l.sent ≠ none) → (t.cable c).loop = (s.cable c).loop)) ∧
      (kindOf x.msg ≠ .query → (∀ n, x.msg ≠ .echo ⟨false, n⟩) → t.time = s.time ∧ t.cables = s.cables)) ∧
    (∀ x, (s.port p).tx = some x → x.stamp ≠ none → s.firstWord p = s) ∧
    (∀ x, (s.port p).tx = some x →
      (x.startsAt ≤ s.now → x.stamp = none → ∃ y, (s.firstWords.port p).tx = some y ∧ y.stamp = some s.stampNs) ∧
      (s.now < x.startsAt ∨ x.stamp ≠ none → s.firstWords.port p = s.port p)) ∧
    s.Quiet s.firstWords ∧ ((s.port p).tx = none → s.firstWords.port p = s.port p) ∧
    (∀ x, (s.port p).tx = some x → x.stamp ≠ none →
      s.endTx p = s.modPort p fun u => { u with tx := none, owed := [⟨.idle, s.now, s.now + w⟩] }) ∧
    (∀ x, (s.port p).tx = some x → ∀ t, t = s.cut p → (t.port p).tx = none ∧
      s.Counts t (.traffic p .cut) ((s.port p).cutQueued s.now) ∧ (∀ i, x.source = .sample i → t.pool = s.pool.release i) ∧
      ((∀ i, x.source ≠ .sample i) → t.pool = s.pool) ∧
      (x.endsAt ≤ s.now → t.counters = s.counters) ∧
      ∀ k, 0 < k → x.endsAt = x.startsAt + msgLength x.msg * k →
        (x.endsAt ≤ s.now → (t.port p).owed = [⟨.idle, x.endsAt, x.endsAt + k⟩]) ∧
        (s.now < x.endsAt → ∃ next,
          (s.now < x.startsAt → next = x.startsAt ∧
            (t.port p).owed = (s.port p).owed.filter (fun y => decide (s.now < y.ends)) ++ [⟨.abort, next, next + k⟩]) ∧
          (x.startsAt ≤ s.now → s.now < next ∧ next ≤ s.now + k ∧ (next - x.startsAt) % k = 0 ∧
            (t.port p).owed = [⟨.word x.msg, s.now, next⟩, ⟨.abort, next, next + k⟩]) ∧
          ∀ n, s.now ≤ n → ∀ u : State, u = { t with now := n } →
            (n < next → x.startsAt ≤ s.now → u.lineOut p = .message x.msg) ∧
            (n < next → ∀ b, (s.port p).owed = [⟨.idle, b, x.startsAt⟩] → b ≤ s.now → s.now < x.startsAt →
              u.lineOut p = .idle) ∧
            ((x.startsAt ≤ s.now ∨ ∀ y ∈ (s.port p).owed, y.ends ≤ x.startsAt) →
              (next ≤ n → n < next + k → u.lineOut p = .abort) ∧ (next + k ≤ n → u.lineOut p = u.restingWord p)))) ∧
    (∀ rest : LineOut,
      (∀ c, p = .cable c →
        ((s.cable c).state = .training → rest = .align) ∧
        ((s.cable c).state = .greeting ∨ (s.cable c).InService → rest = .idle) ∧
        ((s.cable c).state = .dark ∨ (s.cable c).state = .quarantined → rest = .quiet) ∧
        ((s.cable c).state = .parked → rest = if (s.port p).tx = none then .quiet else .idle)) →
      (p = .f → rest = if s.fActive = true then .idle else .quiet) →
      (∀ x, (s.port p).tx = some x → x.startsAt ≤ s.now → s.lineOut p = .message x.msg) ∧
      ((∀ x, (s.port p).tx = some x → s.now < x.startsAt) →
        (∀ before o after, (s.port p).owed = before ++ o :: after → o.starts ≤ s.now → s.now < o.ends →
          (∀ y ∈ before, y.ends ≤ s.now) →
          (o.word = .abort → s.lineOut p = .abort) ∧ (∀ m, o.word = .word m → s.lineOut p = .message m) ∧
          (o.word = .idle →
            (rest ≠ .quiet ∨ (∃ l b e, after = l ++ [⟨.abort, b, e⟩]) → s.lineOut p = .idle) ∧
            (rest = .quiet → after = [] → s.lineOut p = .quiet))) ∧
        ((∀ y ∈ (s.port p).owed, s.now < y.starts ∨ y.ends ≤ s.now) → s.lineOut p = rest)))

/-- R61, R38, R39, R40, R64, R62: when a transmission ends, a sample block's reference is released and the next choice is made; on a
port whose drain has closed the port parks instead, and the drain is answered DONE with its discard count. A drain closes when
nothing of a sample block or a trigger notice is left: at once the port parks when it sends nothing, else its timeout stops. A drain
timeout cuts, removes and counts what is left, parks the port, and is answered TIMED-OUT with the discard count. The parking HELLO
starts after the IDLE or the ABORT owed. A transmission whose check word has left when the timeout is taken has ended and is not
counted as cut (R3). Three points are the model's choice: a drain that closes while link maintenance is in
transmission parks the port when that ends, and a timeout cuts it without a count (log entry 13); a choice comes before the closing
it would make possible (log entry 27); and one control word stands between an ABORT and the HELLO (log entry 31). -/
def Obligations.PortParks : Prop :=
  ∀ s : State, s.EmptyQueueLaw →
    (∀ (p : Port) (x : Tx), (s.port p).tx = some x → x.source ≠ .parking →
      (x.source = .control true → s.ctl.restartPending = false) →
      (∀ c, p = .cable c → ¬ ((s.cable c).state = .draining ∧ s.drainClosed c = true)) →
      exec (.transmissionEnds p) s = .next (((s.endTx p).releaseTx x.source).arbitrate p)) ∧
    (∀ (c : Cable) (d : Drain) (w : Nat), (s.cable c).state = .draining → (s.cable c).drain = some d →
      w = ticksPerWord (s.cable c).rate →
      (d.closed = true → ∀ x, (s.port (.cable c)).tx = some x → x.source ≠ .parking →
        (x.source = .control true → s.ctl.restartPending = false) →
        ∃ u, s.ParksAt u c (s.now + w) ∧ exec (.transmissionEnds (.cable c)) s =
          .next (u.sendReply ⟨d.op.arrival, d.op.origin, d.op.tag, 0x12#8, .done, [natWord d.discards]⟩)) ∧
      (d.closed = false → (s.port (.cable c)).queues.sampleAndTrigger = 0 →
        ((s.port (.cable c)).tx = none → ∃ u, s.ParksAt u c ((s.port (.cable c)).clearAt s.now w) ∧
          exec (.drainCloses c) s =
            .next (u.sendReply ⟨d.op.arrival, d.op.origin, d.op.tag, 0x12#8, .done, [natWord d.discards]⟩)) ∧
        ((s.port (.cable c)).tx ≠ none → (s.port (.cable c)).sendsSample = false →
          exec (.drainCloses c) s = .next (s.modCable c fun u =>
            { u with drain := some { d with closed := true, timeout := none } }))) ∧
      ((s.port (.cable c)).queues.sampleAndTrigger ≠ 0 ∨ (s.port (.cable c)).sendsSample = true ∨ d.closed = true →
        exec (.drainCloses c) s = .next s) ∧
      (d.closed = false → ∃ u,
        s.ParksAt u c (match (s.port (.cable c)).tx with
          | some x => max s.now (if x.endsAt ≤ s.now then x.endsAt + x.wordTicks else (x.abort s.now).ends + w)
          | none => (s.port (.cable c)).clearAt s.now w) ∧
        s.Counts u (.traffic (.cable c) .flushed) (s.port (.cable c)).queues.sampleAndTrigger ∧
        s.Counts u (.traffic (.cable c) .cut) ((s.port (.cable c)).cutQueued s.now) ∧ (u.port (.cable c)).bulkPass = 0 ∧
        exec (.drainTimeout c) s =
          .next (u.sendReply ⟨d.op.arrival, d.op.origin, d.op.tag, 0x12#8, .timedOut,
            [natWord (d.discards + (s.port (.cable c)).cutCount s.now + (s.port (.cable c)).queues.sampleAndTrigger)]⟩)) ∧
      (d.closed = true → exec (.drainTimeout c) s = .next s))

/-- R24, R26, R30, R34, R38, R39, R43, R61, R99, R100, R104, R122, R128, R144, R152, R162, R169: when each row is due, so that the
idle step takes it: at the deadline its unit holds, and no other row is. A request row is due exactly when the head request is of its
kind and no restart is pending. A row that no timer, counter or queue makes due has no turn (`turnOf`) and never is due. Rows due
together stand in the fixed order of `turnOf`, none twice, and the first is taken: that order is the model's choice (log entry
8). -/
def Obligations.RowsDue : Prop :=
  ∀ (s : State) (c : Cable) (p : Port) (i : Fin 4) (k : Fin 2),
    (∀ d, s.nextDue = some d → d ∈ s.due) ∧ (s.nextDue = none → s.due = []) ∧
    (∀ d ∈ s.due, turnOf d ≠ none) ∧ (s.due.map fun d => (turnOf d).getD 0).Pairwise (· < ·) ∧
    (∀ k : ReqKind, requestRow (some k) ∈ s.due ↔
      s.ctl.restartPending = false ∧ ∃ r rest, s.ctl.queue = r :: rest ∧ r.msg.kind = k.code) ∧
    (.unknownRequestKind ∈ s.due ↔
      s.ctl.restartPending = false ∧ ∃ r rest, s.ctl.queue = r :: rest ∧ ∀ k : ReqKind, r.msg.kind ≠ k.code) ∧
    (.restartTakesEffect ∈ s.due ↔ s.ctl.restartPending = true ∧ (∀ x, (s.port .f).tx = some x → x.source ≠ .control true) ∧
      (s.fActive = false ∨ ∀ e ∈ (s.port .f).queues.control, e.restart = false)) ∧
    (.transmissionEnds p ∈ s.due ↔ ∃ x, (s.port p).tx = some x ∧ x.endsAt ≤ s.now ∧ x.source ≠ .parking) ∧
    (.parkingHelloEnds c ∈ s.due ↔ ∃ x, (s.port (.cable c)).tx = some x ∧ x.endsAt ≤ s.now ∧ x.source = .parking) ∧
    (.drainCloses c ∈ s.due ↔ (s.cable c).state = .draining ∧ (∃ d, (s.cable c).drain = some d ∧ d.closed = false) ∧
      (s.port (.cable c)).queues.sampleAndTrigger = 0 ∧ (s.port (.cable c)).sendsSample = false) ∧
    (.drainTimeout c ∈ s.due ↔ (s.cable c).state = .draining ∧
      ∃ d a, (s.cable c).drain = some d ∧ d.closed = false ∧ d.timeout = some a ∧ a ≤ s.now) ∧
    (.loopTestTimeout c ∈ s.due ↔ ∃ l a, (s.cable c).loop = some l ∧ l.sent ≠ none ∧ l.timeout = some a ∧ a ≤ s.now) ∧
    (.trainingAttemptTimeout c ∈ s.due ↔ (s.cable c).state = .training ∧
      ∃ a, (s.cable c).attemptEnds = some a ∧ a ≤ s.now) ∧
    (.echoWaitExpiry c ∈ s.due ↔ (s.cable c).state = .training ∧
      ∃ e, (s.cable c).outstanding = some e ∧ e.until_ ≤ s.now) ∧
    (.greetingWaitExpiry c ∈ s.due ↔ (s.cable c).state = .greeting ∧
      ∃ a, (s.cable c).greetEnds = some a ∧ a ≤ s.now) ∧
    (.helloRepeat c ∈ s.due ↔ (s.cable c).state = .greeting ∧ ∃ a, (s.cable c).repeatAt = some a ∧ a ≤ s.now) ∧
    (.helloRefresh c ∈ s.due ↔ (s.cable c).InService ∧ (s.cable c).helloDue = false ∧
      ∃ a, (s.cable c).refreshAt = some a ∧ a ≤ s.now) ∧
    (.cleanRunTimerRunsOut c ∈ s.due ↔ ∃ a, (s.cable c).cleanRun = some a ∧ a ≤ s.now) ∧
    (.decayStep c ∈ s.due ↔ (s.cable c).decayAt ≤ s.now) ∧
    (.muteTimerRunsOut c ∈ s.due ↔ ∃ a, s.selector.mute.get c = some a ∧ a ≤ s.now) ∧
    (.pinCountRunsOut i ∈ s.due ↔ ∃ a, s.trig.pins[i].activeUntil = some a ∧ a ≤ s.now) ∧
    (.cadencePulseEnds k ∈ s.due ↔ ∃ a, s.cadence[k].highUntil = some a ∧ a ≤ s.now) ∧
    (.firing ∈ s.due ↔ ∃ e ∈ s.trig.schedule, 0 ≤ stampDiff s.ns e.fire) ∧
    (.cadenceEdgeTaken k ∈ s.due ↔ ∃ g, s.cadence[k].next = some g ∧ 0 ≤ stampDiff s.ns g) ∧
    (.queryTimerExpiry ∈ s.due ↔ s.time.role = .follow ∧ ∃ a, s.time.queryAt = some a ∧ a ≤ s.now) ∧
    (.answerWaitEnds ∈ s.due ↔ ∃ q, s.time.outstanding = some q ∧ q.waitEnds ≤ s.now) ∧
    (.holdoverLimitReached ∈ s.due ↔ s.time.state = .holdover ∧
      ∃ a, s.time.holdoverSince = some a ∧ s.time.settings.holdover * 125000000 ≤ s.now - a)

/-! ### Sample blocks -/

/-- R79, R80, R81, R82, R84, R83: the drops of admission before a route is taken, the first that applies: an unassigned hub, an
unknown stream, a misrouted block, a wrong length, a stale sequence, a closed gate, a late block. Only from the sequence check on
does the expected sequence move, and a gap is counted. -/
def Obligations.SampleDrops : Prop :=
  ∀ (s : State) (p : Port) (rx : Ago) (m : SampleMsg), s.BusyLaw → s.collects p = true → s.inService p = true →
    ∀ u, u = s.setRx p .afterCheck → ∀ n, n = m.stream → ∀ e, e = s.entry n →
      (s.frame = unassigned → exec (.sampleBlock p rx m) s = .next (u.count (.traffic p .unassignedDrops))) ∧
      (s.frame ≠ unassigned →
        (e.valid = false → exec (.sampleBlock p rx m) s = .next (u.count (.traffic p .unknownStream))) ∧
        (e.valid = true →
          (p ≠ e.ingress → exec (.sampleBlock p rx m) s = .next (u.count (.stream n .misrouted))) ∧
          (p = e.ingress →
            (m.samples.length ≠ e.length → exec (.sampleBlock p rx m) s = .next (u.count (.stream n .lengthMismatch))) ∧
            (m.samples.length = e.length →
              (∀ x, (s.run n).expected = some x → 128 ≤ (m.seq - x).toNat →
                exec (.sampleBlock p rx m) s = .next (u.count (.stream n .stale))) ∧
              ∀ gap, ((s.run n).expected = none ∧ gap = 0) ∨
                  (∃ x, (s.run n).expected = some x ∧ (m.seq - x).toNat < 128 ∧ gap = (m.seq - x).toNat) →
                ∀ v, v = (u.countBy (.stream n .gap) gap).modRun n (fun y => { y with expected := some (m.seq + 1#8) }) →
                ((s.run n).gateOpen = false → exec (.sampleBlock p rx m) s = .next (v.count (.stream n .gated))) ∧
                ((s.run n).gateOpen = true → (s.time.state = .source ∨ s.time.state = .locked) → e.lateness ≠ 0 →
                  (e.mode = .carry → m.quality = 2#2 → (e.lateness * 1000 : Int) < stampDiff s.ns m.stamp →
                    exec (.sampleBlock p rx m) s = .next (v.count (.stream n .late))) ∧
                  (e.mode = .stampAtEntry → (e.lateness * 1000 : Int) < stampDiff s.ns (s.rxStamp rx) →
                    exec (.sampleBlock p rx m) s = .next (v.count (.stream n .late))))))))

/-- R83, R84, R85, R86, R87, R88, R89, R51, R50, R53, R54, R57: a block that passes the tests. Its stamp and quality are those
received (CARRY), or its receive stamp and the hub's own quality (STAMP-AT-ENTRY). A pending route whose switch sequence is reached
is adopted; the protected copy goes to the protected port, or to the alternate, or is lost; every other member of the output set
that is ACTIVE gets one. With no output the block is dropped, at the quota or with an empty free list it is shed; else the head slot
is taken for it, raising POOL-LOW when the free count falls below the watermark, and named once on every output whose sample queues
have room: at the tail of the urgent queue when the stream's class is URGENT and of the bulk queue when it is BULK, or, on an idle
port, at once in transmission from that queue; an output without room counts queue-full; with room nowhere the slot returns to the
tail of the free list. -/
def Obligations.SampleForwarded : Prop :=
  ∀ (s : State) (p : Port) (rx : Ago) (m : SampleMsg), s.BusyLaw → s.ConservationLaw →
    s.collects p = true → s.inService p = true → s.frame ≠ unassigned →
    ∀ n, n = m.stream → ∀ e, e = s.entry n → e.valid = true → p = e.ingress → m.samples.length = e.length →
    sequenceGap (s.run n).expected m.seq ≠ none → (s.run n).gateOpen = true →
    ∀ (stamp : Stamp) (q : Quality), (e.mode = .carry → stamp = m.stamp ∧
        q = if m.quality = 2#2 then .traceable else if m.quality = 1#2 then .holdover else .untraced) →
      (e.mode = .stampAtEntry → stamp = s.rxStamp rx ∧
        q = match s.time.state with
          | .source | .locked => .traceable
          | .holdover => .holdover
          | .free | .acquiring => .untraced) →
    (e.lateness = 0 ∨ ¬ (s.time.state = .source ∨ s.time.state = .locked) ∨ q ≠ .traceable ∨
      stampDiff s.ns stamp ≤ (e.lateness * 1000 : Int)) →
    ∀ r : StreamRoute,
      (∀ x, (s.run n).pendingRoute = some x → (m.seq - x.switch).toNat < 128 → r = x.route) →
      ((∀ x, (s.run n).pendingRoute = some x → 128 ≤ (m.seq - x.switch).toNat) → r = e.route) →
    ∀ placed : Option Port,
      placed = (match r.protect with
        | none => none
        | some a => if s.isActive a then some a else r.alternate.filter s.isActive) →
    ∀ outs : List Port, outs = Port.all.filter (fun a => decide (placed = some a) ||
      (portIn a r.outputs && decide (r.protect ≠ some a) && s.isActive a)) →
    ∃ t, exec (.sampleBlock p rx m) s = .next t ∧
      t.entry n = { e with route := r } ∧ (t.run n).expected = some (m.seq + 1#8) ∧
      (∀ x, (s.run n).pendingRoute = some x → (m.seq - x.switch).toNat < 128 →
        (t.run n).pendingRoute = none ∧ t.Pending .routeAdopted) ∧
      ((∀ x, (s.run n).pendingRoute = some x → 128 ≤ (m.seq - x.switch).toNat) →
        (t.run n).pendingRoute = (s.run n).pendingRoute) ∧
      (∀ a, placed = some a → (t.run n).onAlternate = decide (r.protect ≠ some a)) ∧
      (placed = none → (t.run n).onAlternate = (s.run n).onAlternate) ∧
      ((t.run n).onAlternate ≠ (s.run n).onAlternate → t.Pending .failover) ∧
      s.Counts t (.stream n .noPath) ((if r.protect.isSome ∧ placed = none then 1 else 0) +
        (Port.all.filter fun a => portIn a r.outputs && decide (r.protect ≠ some a) && !s.isActive a).length) ∧
      (outs = [] → t.pool = s.pool ∧ (t.run n).remaining = (s.run n).remaining) ∧
      (outs ≠ [] → (e.quota ≤ s.held n ∨ s.pool.free = []) →
        t.pool = s.pool ∧ s.Counts t (.stream n .shed) 1 ∧ (t.run n).remaining = (s.run n).remaining) ∧
      (outs ≠ [] → s.held n < e.quota → ∀ i free, s.pool.free = i :: free →
        ∀ made : List Port, made = outs.filter (fun a =>
          decide ((s.port a).queues.urgent.length + (s.port a).queues.bulk.length < 48)) →
        (∀ k, (s.run n).remaining = some k →
          (t.run n).remaining = some (k - 1) ∧ (t.run n).gateOpen = decide (k - 1 ≠ 0)) ∧
        ((s.run n).remaining = none → (t.run n).remaining = none ∧ (t.run n).gateOpen = true) ∧
        (s.pool.free.length = s.pool.watermark → t.Pending .poolLow) ∧
        (s.pool.free.length ≠ s.pool.watermark → (t.Pending .poolLow ↔ s.Pending .poolLow)) ∧
        (∀ a : Port, s.Counts t (.traffic a .queueFull) (if a ∈ outs ∧ a ∉ made then 1 else 0)) ∧
        (made = [] → t.pool.slots = s.pool.slots ∧ t.pool.free = free ++ [i] ∧ t.pool.held = s.pool.held ∧
          s.Counts t (.stream n .queueFull) 1 ∧ (t.run n).lastAdmitted = (s.run n).lastAdmitted) ∧
        (made ≠ [] → t.pool.slots[i] = some ⟨n, made.length, m.seq, stamp, q, m.samples⟩ ∧ t.pool.free = free ∧
          t.held n = s.held n + 1 ∧ s.Counts t (.stream n .forwarded) 1 ∧ (t.run n).lastAdmitted = some m.seq ∧
          (∀ a : Port, (t.port a).names i = if a ∈ made then 1 else 0) ∧
          (∀ a ∈ made, (s.port a).tx ≠ none → (t.port a).bulkPass = (s.port a).bulkPass ∧
            (e.cls = .urgent → (t.port a).queues.urgent = (s.port a).queues.urgent ++ [i] ∧
              (t.port a).queues.bulk = (s.port a).queues.bulk) ∧
            (e.cls = .bulk → (t.port a).queues.bulk = (s.port a).queues.bulk ++ [i] ∧
              (t.port a).queues.urgent = (s.port a).queues.urgent)) ∧
          (∀ a ∈ made, (s.port a).tx = none → (∃ x, (t.port a).tx = some x ∧ x.source = .sample i) ∧
            (t.port a).queues.urgent = [] ∧ (t.port a).queues.bulk = [] ∧
            (t.port a).bulkPass = if e.cls = .bulk then 0 else (s.port a).bulkPass) ∧
          ∀ a : Port, a ∉ made → (t.port a).queues.urgent = (s.port a).queues.urgent ∧
            (t.port a).queues.bulk = (s.port a).queues.bulk))

/-! ### Control messages -/

/-- R159, R160, R161, R174, R175: a control request taken on a port in service. For this hub it joins the request queue, or is
answered BUSY when 8 wait; towards another frame it is forwarded by the primary when ACTIVE, else the alternate, with hop count
lower by one and with destination NEIGHBOUR for frame 31 at an unassigned neighbour; without hops or port it is answered
UNREACHABLE, at a full control queue BUSY; an unassigned hub discards what a cable port brings for a frame. -/
def Obligations.ControlRequestTaken : Prop :=
  ∀ (s : State) (p : Port) (stamp : Ago) (m : RequestMsg), s.BusyLaw → s.collects p = true → s.inService p = true →
    ∀ u, u = s.setRx p .afterCheck → ∀ r : Request, r = ⟨p, m⟩ →
      ((m.dest = .neighbour ∨ (s.frame ≠ unassigned ∧ m.dest = .frame s.frame) ∨
          (s.frame = unassigned ∧ p = .f ∧ m.dest = .frame unassigned)) →
        (s.ctl.queue.length < 8 → exec (.controlRequest p ⟨stamp, m⟩) s =
          .next ((u.modCtl fun x => { x with queue := x.queue ++ [r] }).count (.control .requestsQueued))) ∧
        (8 ≤ s.ctl.queue.length → exec (.controlRequest p ⟨stamp, m⟩) s =
          .next ((u.count (.control .queueFullRefusals)).sendReply (r.reply .busy [])))) ∧
      (∀ f, m.dest = .frame f → s.frame = unassigned →
        (p = .f → f ≠ unassigned → exec (.controlRequest p ⟨stamp, m⟩) s =
          .next ((u.count (.control .unreachableAnswers)).sendReply (r.reply .unreachable []))) ∧
        (p ≠ .f → exec (.controlRequest p ⟨stamp, m⟩) s = .next (u.count (.control .unassignedDiscards)))) ∧
      (∀ f, m.dest = .frame f → s.frame ≠ unassigned → f ≠ s.frame →
        (m.hop = 0#4 ∨ s.routeTo f = none → exec (.controlRequest p ⟨stamp, m⟩) s =
          .next ((u.count (.control .unreachableAnswers)).sendReply (r.reply .unreachable []))) ∧
        ∀ c, m.hop ≠ 0#4 → s.routeTo f = some c →
          (8 ≤ (s.port (.cable c)).queues.control.length → exec (.controlRequest p ⟨stamp, m⟩) s =
            .next ((u.count (.control .forwardBusyAnswers)).sendReply (r.reply .busy []))) ∧
          ((s.port (.cable c)).queues.control.length < 8 → ∀ d : Dest,
            (f = unassigned → (s.cable c).neighbour.map (·.frame) = some unassigned → d = .neighbour) →
            (f ≠ unassigned ∨ (s.cable c).neighbour.map (·.frame) ≠ some unassigned → d = .frame f) →
            exec (.controlRequest p ⟨stamp, m⟩) s = .next (((u.modQueues (.cable c) fun q =>
              { q with control := q.control ++ [⟨.request { m with dest := d, hop := m.hop - 1 }, false⟩] }).arbitrate
                (.cable c)).count (.control .requestsForwarded))))

/-- R159, R160, R176, R177: a reply or a notice taken on a port in service. For this hub's frame or NEIGHBOUR it is delivered to F as
received, or dropped; towards another frame it is forwarded with its hop count lower by one, or dropped: for frame 31, without hops or
port, or at a full control queue. An unassigned hub discards it. -/
def Obligations.RepliesAndNoticesTaken : Prop :=
  ∀ (s : State) (p : Port) (stamp : Ago), s.BusyLaw → s.collects p = true → s.inService p = true →
    ∀ u, u = s.setRx p .afterCheck → ∀ (i : Instr) (x y : ControlMsg) (dest : Dest) (hop : BitVec 4),
      (∃ m, i = .controlReply p ⟨stamp, m⟩ ∧ x = .reply m ∧ y = .reply { m with hop := m.hop - 1 } ∧ dest = m.dest ∧
          hop = m.hop) ∨
        (∃ m, i = .notice p ⟨stamp, m⟩ ∧ x = .notice m ∧ y = .notice { m with hop := m.hop - 1 } ∧ dest = m.dest ∧
          hop = m.hop) →
      (s.frame = unassigned → exec i s = .next (u.count (.control .unassignedDiscards))) ∧
      (s.frame ≠ unassigned → (dest = .neighbour ∨ dest = .frame s.frame) →
        (s.fActive = true → (s.port .f).queues.control.length < 8 → exec i s =
          .next (((u.modQueues .f fun q => { q with control := q.control ++ [⟨x, false⟩] }).arbitrate .f).count
            (.control .deliveredToFrame))) ∧
        (s.fActive = false ∨ 8 ≤ (s.port .f).queues.control.length →
          exec i s = .next (u.count (.control .deliveryDrops)))) ∧
      (s.frame ≠ unassigned → ∀ f, dest = .frame f → f ≠ s.frame →
        (f = unassigned ∨ hop = 0#4 ∨ s.routeTo f = none → exec i s = .next (u.count (.control .forwardDrops))) ∧
        ∀ c, f ≠ unassigned → hop ≠ 0#4 → s.routeTo f = some c →
          (8 ≤ (s.port (.cable c)).queues.control.length → exec i s = .next (u.count (.control .forwardDrops))) ∧
          ((s.port (.cable c)).queues.control.length < 8 → exec i s =
            .next (((u.modQueues (.cable c) fun q => { q with control := q.control ++ [⟨y, false⟩] }).arbitrate
              (.cable c)).count (.control .repliesForwarded))))

/-! ### Triggers -/

/-- R138, R139, R140, R141, R142, R143, R136: a trigger notice taken on a port in service of an assigned hub. A fire time further
than 2^31 ns from RT_ns is malformed, a pair of the recent-trigger list a duplicate; each is counted and changes nothing else. Any
other notice joins the list; with hops left a copy is queued on every other ACTIVE port with room, and a trigger drop counted at one
without; and one entry for each matching pin, then one for the gates of its line, joins the schedule by fire time while the schedule
has room, what is left counting as overflows; the entries of a late notice fire instead, one after another, as long as there is room
for one. An origination is taken like a notice that arrived on no port. -/
def Obligations.TriggerNoticeTaken : Prop :=
  (∀ (s : State) (p : Port) (stamp : Ago) (m : TriggerMsg), s.BusyLaw → s.collects p = true → s.inService p = true →
    ∀ u, u = s.setRx p .afterCheck →
      (s.frame = unassigned → exec (.triggerNotice p ⟨stamp, m⟩) s = .next u) ∧
      (s.frame ≠ unassigned → exec (.triggerNotice p ⟨stamp, m⟩) s = .next (State.noticed s (u.takeNotice m (some p)).2))) ∧
  (∀ (s : State) (m : TriggerMsg) (arrival : Option Port), s.BusyLaw →
    (stampDiff m.fire s.ns < -2 ^ 31 ∨ 2 ^ 31 < stampDiff m.fire s.ns →
      s.takeNotice m arrival = (false, s.count (.trigger .malformed))) ∧
    (-2 ^ 31 ≤ stampDiff m.fire s.ns → stampDiff m.fire s.ns ≤ 2 ^ 31 →
      ((m.origin, m.seq) ∈ s.trig.recent → s.takeNotice m arrival = (false, s.count (.trigger .duplicates))) ∧
      ((m.origin, m.seq) ∉ s.trig.recent → ∃ t, s.takeNotice m arrival = (true, t) ∧
        t.trig.recent = (if s.trig.recent.length < 16 then s.trig.recent else s.trig.recent.tail) ++ [(m.origin, m.seq)] ∧
        s.Counts t (.trigger .noticesTaken) 1 ∧
        (∀ q : Port, m.hop ≠ 0#4 → arrival ≠ some q → s.isActive q = true → (s.port q).queues.trigger.length < 8 →
          ∀ copy : TriggerMsg, copy = { m with quality := (Quality.ofCode m.quality).code, hop := m.hop - 1 } →
            ((s.port q).tx ≠ none ∧ (t.port q).tx = (s.port q).tx ∧
              (t.port q).queues.trigger = (s.port q).queues.trigger ++ [copy]) ∨
            ((s.port q).tx = none ∧ t.Sends q (.trigger copy) .trigger)) ∧
        (∀ q : Port, m.hop = 0#4 ∨ arrival = some q ∨ s.isActive q = false ∨ 8 ≤ (s.port q).queues.trigger.length →
          t.port q = s.port q) ∧
        (∀ q : Port, s.Counts t (.traffic q .triggerDrops) (if m.hop ≠ 0#4 ∧ arrival ≠ some q ∧ s.isActive q = true ∧
          8 ≤ (s.port q).queues.trigger.length then 1 else 0)) ∧
        s.Counts t (.trigger .copiesForwarded) (Port.all.filter fun q => decide (m.hop ≠ 0#4 ∧ arrival ≠ some q ∧
          s.isActive q = true ∧ (s.port q).queues.trigger.length < 8)).length ∧
        ∀ targets : List Target,
          targets = (s.trig.map.toList.filterMap fun e =>
              if e.valid = true ∧ e.line = m.line ∧ e.base / e.span = m.origin.val / e.span ∧ 0 < e.span then
                e.pin.map Target.pin else none) ++
            (if ∃ n : StreamNo, (s.entry n).valid = true ∧ (s.entry n).gateLine = some m.line then [.gates] else []) →
          ∀ entry : Bool → Target → SchedEntry,
            (∀ late x, entry late x = ⟨m.fire, x, m.line, m.origin, Quality.ofCode m.quality, late⟩) →
          (∀ n, n = targets.length - (8 - s.trig.schedule.length) → 0 < stampDiff m.fire s.ns →
            t.trig.schedule = (targets.take (8 - s.trig.schedule.length)).foldl (fun l x => insertEntry (entry false x) l)
              s.trig.schedule ∧
            s.Counts t (.trigger .entriesScheduled) (targets.length - n) ∧ s.Counts t (.trigger .overflows) n ∧
            (0 < n → t.Pending .scheduleOverflow) ∧ t.trig.pins = s.trig.pins ∧ t.streams = s.streams) ∧
          (stampDiff m.fire s.ns ≤ 0 → t.trig.schedule = s.trig.schedule ∧
            (8 ≤ s.trig.schedule.length → s.Counts t (.trigger .entriesScheduled) 0 ∧
              s.Counts t (.trigger .overflows) targets.length ∧ (targets ≠ [] → t.Pending .scheduleOverflow)) ∧
            (s.trig.schedule.length < 8 → s.Counts t (.trigger .entriesScheduled) targets.length ∧
              s.Counts t (.trigger .overflows) 0 ∧ s.Fired t (targets.map (entry true)) targets.length))))) ∧
  (∀ (s : State) (line : Line) (fire : Stamp), s.originate line fire =
    ((s.modTrig fun t => { t with originCounter := t.originCounter + 1#8 }).count (.trigger .noticesOriginated)).takeNotice
      ⟨s.frame, s.quality.code, line, s.trig.originCounter, 15#4, fire⟩ none) ∧
  (∀ (e : SchedEntry) (l : List SchedEntry), ∃ before after, l = before ++ after ∧
    insertEntry e l = before ++ e :: after ∧ (∀ x ∈ before, stampDiff x.fire e.fire ≤ 0) ∧
    ∀ x, after.head? = some x → 0 < stampDiff x.fire e.fire)

/-- R134, R135, R136, R149: a change of an input's level is an edge. An edge the setting does not select, and every edge of an
unassigned hub, changes the level alone; a held-off edge is counted too; any other originates a notice on the input's line, with
fire time RT_ns plus the lead, and its tick becomes the last origination. -/
def Obligations.InputEdgeTaken : Prop :=
  ∀ (s : State) (i : Fin 4) (level : Bool), s.BusyLaw →
    (s.trig.inputs[i].level = level → exec (.inputEdge i level) s = .next s) ∧
    (s.trig.inputs[i].level ≠ level →
      ∀ u, u = s.modTrig (fun t => { t with inputs := t.inputs.set i { t.inputs[i] with level := level } }) →
        (s.frame = unassigned ∨ s.trig.inputs[i].edge = .off ∨ (s.trig.inputs[i].edge = .rising ∧ level = false) ∨
            (s.trig.inputs[i].edge = .falling ∧ level = true) →
          exec (.inputEdge i level) s = .next u) ∧
        (s.frame ≠ unassigned → (s.trig.inputs[i].edge = .both ∨ (s.trig.inputs[i].edge = .rising ∧ level = true) ∨
            (s.trig.inputs[i].edge = .falling ∧ level = false)) →
          (∀ a, s.trig.inputs[i].lastOrigin = some a → s.now - a < (s.trig.inputs[i].holdoff + 7) / 8 →
            exec (.inputEdge i level) s = .next (u.count (.trigger .heldOff))) ∧
          ((∀ a, s.trig.inputs[i].lastOrigin = some a → (s.trig.inputs[i].holdoff + 7) / 8 ≤ s.now - a) →
            ∀ (taken : Bool) (t : State),
              (u.modTrig fun t => { t with inputs := t.inputs.set i { t.inputs[i] with lastOrigin := some s.now } }).originate
                s.trig.inputs[i].line (s.ns + BitVec.ofNat 48 s.trig.lead) = (taken, t) →
              exec (.inputEdge i level) s = .next (State.noticed s t))))

/-- R144, R145, R90: at a tick on which RT_ns has reached fire times, exactly the entries it has reached leave the schedule and
fire: counted, the late ones also as late firings with LATE-TRIGGER; a pin entry drives its pin active for the pin's width, on an
active pin as a merged firing; a gate entry opens the gates of every valid stream with its line as gate line, with their gate
counts; other pins and streams are as before. R152: a cadence unit whose next edge RT_ns has reached takes it under its pending
settings, if any: it stops, suppresses the edge, or makes a pulse of ceil(w / 8) ticks. R144, R152: a pin's count and a cadence
pulse run out. A pin that has fired is at its active level and one whose count has run out at its inactive level; a cadence output is
high from a pulse until its count runs out, and a suppressed or stopping edge leaves it. -/
def Obligations.TriggersFire : Prop :=
  ∀ s : State, s.BusyLaw →
    ((∀ e ∈ s.trig.schedule, stampDiff s.ns e.fire < 0) → exec .firing s = .next s) ∧
    (∀ due : List SchedEntry, due = s.trig.schedule.filter (fun e => decide (0 ≤ stampDiff s.ns e.fire)) → due ≠ [] →
      ∃ t, exec .firing s = .next t ∧
        t.trig.schedule = s.trig.schedule.filter (fun e => decide (stampDiff s.ns e.fire < 0)) ∧
        s.Fired t due (due.filter (·.late)).length ∧
        (∀ i : Fin 4, (∃ e ∈ due, e.target = .pin i) →
          t.trig.pins[i].high = decide (s.trig.pins[i].polarity = .activeHigh)) ∧
        t.trig.recent = s.trig.recent ∧ t.trig.inputs = s.trig.inputs ∧ t.trig.map = s.trig.map ∧
        t.cadence = s.cadence ∧ t.time = { s.time with outstanding := t.time.outstanding }) ∧
    (∀ k : Fin 2,
      (s.cadence[k].next = none → exec (.cadenceEdgeTaken k) s = .next s) ∧
      (∀ g, s.cadence[k].next = some g → stampDiff s.ns g < 0 → exec (.cadenceEdgeTaken k) s = .next s) ∧
      (∀ g, s.cadence[k].next = some g → 0 ≤ stampDiff s.ns g → ∀ c, c = s.cadence[k].pending.getD s.cadence[k].settings →
        (c.mode = .stopped → exec (.cadenceEdgeTaken k) s =
          .next (s.modCadence k fun u => { u with settings := c, pending := none, next := none })) ∧
        (c.mode ≠ .stopped → c.lockedOnly = true → s.time.state ≠ .source → s.time.state ≠ .locked →
          exec (.cadenceEdgeTaken k) s = .next ((s.modCadence k fun u =>
            { u with settings := c, pending := none, next := some (c.nextEdge g) }).count (.trigger (.suppressed k)))) ∧
        (c.lockedOnly = false ∨ s.time.state = .source ∨ s.time.state = .locked →
          (c.mode = .continuous → exec (.cadenceEdgeTaken k) s = .next ((s.modCadence k fun _ =>
            ⟨c, none, some (c.nextEdge g), some (s.now + (c.width + 7) / 8)⟩).count (.trigger (.pulses k)))) ∧
          (c.mode = .single → exec (.cadenceEdgeTaken k) s = .next ((s.modCadence k fun _ =>
            ⟨{ c with mode := .stopped }, none, none, some (s.now + (c.width + 7) / 8)⟩).count (.trigger (.pulses k)))))) ∧
      exec (.cadencePulseEnds k) s = .next (s.modCadence k fun u => { u with highUntil := none }) ∧
      (∀ t, exec (.cadencePulseEnds k) s = .next t → t.cadence[k].high = false) ∧
      (∀ t, exec (.cadenceEdgeTaken k) s = .next t →
        ((t.counters.get (.trigger (.pulses k)) ≠ s.counters.get (.trigger (.pulses k)) → t.cadence[k].high = true) ∧
          (t.cadence[k].high ≠ s.cadence[k].high → t.cadence[k].high = true)))) ∧
    (∀ i : Fin 4, exec (.pinCountRunsOut i) s = .next (s.modTrig fun t =>
      { t with pins := t.pins.set i { t.pins[i] with activeUntil := none } }) ∧
      ∀ t, exec (.pinCountRunsOut i) s = .next t → t.trig.pins[i].high = decide (s.trig.pins[i].polarity = .activeLow))

/-! ### Rack time -/

/-- R102, R103, R57: a DELAY QUERY taken on a port in service is answered in the timing queue of that port, with its number and
receive stamp, and counted; a full queue drops the answer, counted at the port and not in queries answered (the model's choice, log
entry 16). A TIME ANSWER that fails a test of R103 is discarded and counted; an accepted one ends the query and the missed run and
is counted, and is rejected as a negative round or goes on to the history. -/
def Obligations.QueriesAndAnswers : Prop :=
  ∀ (s : State) (p : Port) (stamp : Ago), s.BusyLaw → s.collects p = true → s.inService p = true →
    ∀ u, u = s.setRx p .afterCheck →
      (∀ number : BitVec 8,
        ((s.port p).queues.timing.length < 2 → exec (.delayQuery p stamp number) s =
          .next (((u.modQueues p fun q => { q with timing := q.timing ++ [.answer number (s.rxStamp stamp)] }).arbitrate p).count
            (.timing .queriesAnswered))) ∧
        (2 ≤ (s.port p).queues.timing.length →
          exec (.delayQuery p stamp number) s = .next (u.count (.traffic p .timingDrops)))) ∧
      (∀ m : AnswerMsg,
        (s.time.outstanding = none ∨ m.rank = 15#4 ∨
            (∃ q, s.time.outstanding = some q ∧
              (q.t1 = none ∨ q.number ≠ m.number ∨ p ≠ .cable q.port ∨ s.selector.upstream ≠ some q.port)) →
          exec (.timeAnswer p stamp m) s = .next (u.count (.timing .answersDiscarded))) ∧
        (∀ q t1, s.time.outstanding = some q → q.t1 = some t1 → q.number = m.number → p = .cable q.port →
          s.selector.upstream = some q.port → m.rank ≠ 15#4 →
          ∀ v, v = (u.modTime fun t => { t with outstanding := none, missedRun := 0 }).count (.timing .answersAccepted) →
          ∀ round, round = stampDiff (s.rxStamp stamp) t1 - stampDiff m.t3 m.t2 →
            (round < 0 → exec (.timeAnswer p stamp m) s = .next (v.count (.timing .negativeRounds))) ∧
            (0 ≤ round → 8 ≤ s.time.history.length →
              2 * (s.time.history.sum / s.time.history.length) + 64 < round / 2 → s.time.outlierRun ≤ 2 →
              exec (.timeAnswer p stamp m) s = .next ((v.count (.timing .outliers)).modTime fun t =>
                { t with outlierRun := t.outlierRun + 1 }))))

/-- R107, R108, R109, R110, R111, R94, R99: what an accepted answer does to rack time, once its delay sample has left the history h.
With D the floor of the mean of h, θ = (t2 − t1) − D becomes the last offset. A |θ| above the step threshold steps RT_ns by θ, leaves
the fraction, C, I and the stamps of its own tick, and takes LOCKED to ACQUIRING. Any other slews: I takes θ·2^(24−n−ki), C becomes P + I, each clamped; and the
lock run counts, four within the window to LOCKED, two outside it back to ACQUIRING. -/
def Obligations.AnswerComputed : Prop :=
  ∀ (s : State) (c : Cable) (stamp : Ago) (m : AnswerMsg) (q : Query) (t1 : Stamp),
    s.BusyLaw → s.UpstreamLaw → s.collects (.cable c) = true →
    s.time.outstanding = some q → q.t1 = some t1 → q.number = m.number → q.port = c → s.selector.upstream = some c →
    m.rank ≠ 15#4 →
    ∀ d : Int, d = (stampDiff (s.rxStamp stamp) t1 - stampDiff m.t3 m.t2) / 2 → 0 ≤ d →
    ∀ (full outlier : Prop), (full ↔ 8 ≤ s.time.history.length) →
      (outlier ↔ full ∧ 2 * (s.time.history.sum / s.time.history.length) + 64 < d) →
      (outlier → 3 ≤ s.time.outlierRun) →
    ∀ h : List Int, (¬ full → h = s.time.history ++ [d]) → (full → ¬ outlier → h = s.time.history.tail ++ [d]) →
      (outlier → h = [d]) →
    ∀ θ : Int, θ = stampDiff m.t2 t1 - h.sum / h.length →
    ∃ t, exec (.timeAnswer (.cable c) stamp m) s = .next t ∧
      t.time.history = h ∧ t.time.outlierRun = 0 ∧ t.time.lastOffset = some θ ∧ t.time.outstanding = none ∧
      t.time.missedRun = 0 ∧ s.Counts t (.timing .answersAccepted) 1 ∧
      (outlier → s.Counts t (.timing .outliers) 1 ∧ s.Counts t (.timing .historyRestarts) 1) ∧
      (¬ outlier → s.Counts t (.timing .outliers) 0 ∧ s.Counts t (.timing .historyRestarts) 0) ∧
      (s.time.settings.step < θ.natAbs →
        t.ns = s.ns + BitVec.ofInt 48 θ ∧ t.stampNs = s.stampNs ∧ t.time.counter.extractLsb' 0 24 = s.time.counter.extractLsb' 0 24 ∧
          t.time.correction = s.time.correction ∧ t.time.integrator = s.time.integrator ∧ t.time.lockRun = 0 ∧
          t.time.state = .acquiring ∧ s.Counts t (.timing .steps) 1 ∧ t.Pending .timeStep) ∧
      (θ.natAbs ≤ s.time.settings.step →
        ∀ term : Nat → Int, (∀ k, term k = if s.time.settings.interval + k ≤ 24 then
            θ * 2 ^ (24 - (s.time.settings.interval + k)) else θ / 2 ^ (s.time.settings.interval + k - 24)) →
          t.time.counter = s.time.counter ∧
          t.time.integrator = max (-26843) (min 26843 (s.time.integrator + term s.time.settings.ki)) ∧
          t.time.correction = max (-26843) (min 26843 (term s.time.settings.kp + t.time.integrator)) ∧
          (s.time.state = .acquiring → θ.natAbs ≤ s.time.settings.window →
            (s.time.lockRun < 3 → t.time.state = .acquiring ∧ t.time.lockRun = s.time.lockRun + 1) ∧
            (3 ≤ s.time.lockRun → t.time.state = .locked ∧ t.time.lockRun = 0 ∧ t.time.heldRate = true ∧
              t.Pending .timingState)) ∧
          (s.time.state = .acquiring → s.time.settings.window < θ.natAbs →
            t.time.state = .acquiring ∧ t.time.lockRun = 0) ∧
          (s.time.state = .locked → θ.natAbs ≤ s.time.settings.window →
            t.time.state = .locked ∧ t.time.lockRun = 0) ∧
          (s.time.state = .locked → s.time.settings.window < θ.natAbs →
            (s.time.lockRun < 1 → t.time.state = .locked ∧ t.time.lockRun = s.time.lockRun + 1) ∧
            (1 ≤ s.time.lockRun → t.time.state = .acquiring ∧ t.time.lockRun = 0 ∧ t.Pending .timingState)))

/-- R100, R101, R104, R128, R129, R99: the run-outs of the rack time unit's and the selector's timers. The query timer starts again,
and with an upstream and no outstanding query sends a query, which a full timing queue turns into a miss; the refused query is
counted in queries sent (the model's choice, log entry 16). A miss is counted, by the wait's end or by the refusal; the third in a
row mutes the port for 1 s and gives up the upstream, or, where its report is overtaken, leaves the report for the selector to take
(R129; which of the two is the free choice of log entry 32). The holdover limit ends HOLDOVER in FREE. A mute timer's end makes the
selector evaluate. -/
def Obligations.UnitTimers : Prop :=
  ∀ s : State, s.BusyLaw →
    (s.time.role = .follow → s.time.queryAt ≠ none →
      (s.selector.upstream = none → exec .queryTimerExpiry s =
        .next (s.modTime fun t => { t with queryAt := some (s.now + 2 ^ s.time.settings.interval) })) ∧
      (∀ c, s.selector.upstream = some c → s.inService (.cable c) = true → s.time.outstanding = none →
        ∀ u, u = (s.modTime fun t =>
          { t with
            queryAt := some (s.now + 2 ^ s.time.settings.interval)
            queryNumber := t.queryNumber + 1#8
            outstanding := some ⟨s.time.queryNumber, c, none, s.now + 250000⟩ }).count (.timing .queriesSent) →
        ((s.port (.cable c)).queues.timing.length < 2 → exec .queryTimerExpiry s =
          .next ((u.modQueues (.cable c) fun q => { q with timing := q.timing ++ [.query s.time.queryNumber] }).arbitrate
            (.cable c))) ∧
        (2 ≤ (s.port (.cable c)).queues.timing.length →
          ∀ v, v = ((u.count (.traffic (.cable c) .timingDrops)).count (.timing .missedAnswers)) →
          (s.time.missedRun < 2 → exec .queryTimerExpiry s =
            .next (v.modTime fun t => { t with outstanding := none, missedRun := t.missedRun + 1 })) ∧
          (2 ≤ s.time.missedRun → ∃ t, exec .queryTimerExpiry s = .next t ∧
            (v.modTime fun t => { t with outstanding := none, missedRun := 0 }).LostBy t c)))) ∧
    (∀ q, s.time.outstanding = some q →
      (s.time.missedRun < 2 → exec .answerWaitEnds s = .next ((s.count (.timing .missedAnswers)).modTime fun t =>
        { t with outstanding := none, missedRun := t.missedRun + 1 })) ∧
      (2 ≤ s.time.missedRun → ∃ t, exec .answerWaitEnds s = .next t ∧
        ((s.count (.timing .missedAnswers)).modTime fun t => { t with outstanding := none, missedRun := 0 }).LostBy
          t q.port ∧
        (s.UpstreamLaw → Config.lossOvertaken s.selector.losses = false → t.selector.upstream ≠ some q.port))) ∧
    (s.time.state = .holdover → exec .holdoverLimitReached s = .next (State.noticed s ((s.modTime fun t =>
      { t with holdoverSince := none, state := .free }).raise .timingState))) ∧
    (∀ c : Cable, s.selector.mute.get c ≠ none → ∃ t, exec (.muteTimerRunsOut c) s = .next t ∧
      ((s.modSelector fun x => { x with mute := x.mute.set c none }).select).Quiet t)

/-- R123, R125, R126, R127, R128, R129, R98, R99, R131, R120: an evaluation. In SOURCE it does nothing. In FOLLOW an upstream that
passes the keep test stays unless a candidate lies two ranks lower; else the best candidate, the lowest recorded rank at the lowest
port number, is chosen; a change raises UPSTREAM and acts on the timing state: found, ACQUIRING; replaced, ACQUIRING; lost, HOLDOVER
with C = I when the rate is held, else FREE. A report that a change has overtaken is taken after the evaluation: the named port is
muted for 1 s, and the selector evaluates again. And the rank the hub advertises: 0 in SOURCE, 15 in FREE and HOLDOVER, one more
than the upstream's and at most 14. -/
def Obligations.Evaluation : Prop :=
  (∀ s : State, s.time.role = .source → s.evaluate = s) ∧
  (∀ (s : State) (c : Cable), s.candidate c = true ↔
    (s.cable c).state = .active ∧ (s.cable c).eligible = true ∧ s.selector.mute.get c = none ∧
      ∃ n, (s.cable c).neighbour = some n ∧ n.rank.toNat ≤ 13 ∧ n.upstream ≠ some s.frame) ∧
  (∀ s : State, s.time.role = .follow →
    (∀ u, s.selector.upstream = some u → s.keeps u = true →
      (∀ c, s.candidate c = true → s.recordedRank u < s.recordedRank c + 2) → s.evaluate = s) ∧
    (∀ b, s.candidate b = true →
      (∀ c, s.candidate c = true → s.recordedRank b < s.recordedRank c ∨
        (s.recordedRank b = s.recordedRank c ∧ b.number ≤ c.number)) →
      (∀ u, s.selector.upstream = some u → s.keeps u = true → s.recordedRank b + 2 ≤ s.recordedRank u) →
      s.selector.upstream ≠ some b →
        s.evaluate.selector.upstream = some b ∧ s.evaluate.Pending .upstream ∧
        s.evaluate.time.outstanding = none ∧ s.evaluate.time.history = [] ∧ s.evaluate.time.lockRun = 0 ∧
        s.evaluate.time.missedRun = 0 ∧ s.evaluate.time.outlierRun = 0 ∧ s.evaluate.time.lastOffset = none ∧
        s.evaluate.time.correction = s.time.correction ∧ s.evaluate.time.integrator = s.time.integrator ∧
        (s.time.state ≠ .source → (s.selector.upstream = none ↔ ¬ s.time.state.following) →
          s.evaluate.time.state = .acquiring)) ∧
    ((∀ c, s.candidate c = false) → ∀ u, s.selector.upstream = some u → s.keeps u = false → s.time.state.following →
      s.evaluate.selector.upstream = none ∧ s.evaluate.Pending .upstream ∧ s.evaluate.Pending .timingState ∧
      s.evaluate.time.outstanding = none ∧ s.evaluate.time.history = [] ∧ s.evaluate.time.lockRun = 0 ∧
      (s.time.heldRate = true → s.RateLaw → s.evaluate.time.state = .holdover ∧
        s.evaluate.time.correction = s.time.integrator ∧ s.evaluate.time.holdoverSince = some s.now) ∧
      (s.time.heldRate = false → s.evaluate.time.state = .free ∧
        s.evaluate.time.correction = s.time.correction))) ∧
  (∀ s : State,
    (s.selector.lossReport = none → s.select = s.evaluate) ∧
    (∀ c, s.selector.lossReport = some c → ∀ u, u = s.evaluate.modSelector (fun x =>
      { x with lossReport := none, mute := x.mute.set c (some (s.now + 125000000)) }) →
        s.select = u.evaluate ∧ (s.time.role = .follow → s.select.selector.upstream ≠ some c) ∧
          (s.evaluate.selector.upstream ≠ some c → s.select = u))) ∧
  (∀ s : State, s.UpstreamLaw →
    (s.time.state = .source → s.rank = 0#4) ∧
    ((s.time.state = .free ∨ s.time.state = .holdover) → s.rank = 15#4) ∧
    (s.time.state.following → ∃ u n, s.selector.upstream = some u ∧ (s.cable u).neighbour = some n ∧
      s.rank.toNat = n.rank.toNat + 1 ∧ s.rank.toNat ≤ 14))

/-! ### Link maintenance -/

/-- R26, R27, R28, R29, R20: a HELLO taken by a cable port. In TRAINING it is discarded. A parking HELLO takes GREETING, ACTIVE and
DRAINING to TRAINING without a fault, a frame clash to QUARANTINED, counted and raised. Any other takes GREETING to ACTIVE with the
neighbour entry it makes, and calls for a HELLO; in ACTIVE and DRAINING it rewrites the entry, and a change makes the selector
evaluate. That a parking HELLO which also carries this hub's frame number goes to TRAINING and counts no clash is the model's choice
between two rows of the tables (log entry 37). -/
def Obligations.HelloTaken : Prop :=
  ∀ (s : State) (c : Cable) (stamp : Ago) (m : HelloMsg), s.BusyLaw → s.collects (.cable c) = true →
    ((s.cable c).state = .training → exec (.hello (.cable c) ⟨stamp, m⟩) s = .next (s.setRx (.cable c) .afterCheck)) ∧
    (((s.cable c).state = .greeting ∨ (s.cable c).InService) →
      (m.parking = true → ∃ t, exec (.hello (.cable c) ⟨stamp, m⟩) s = .next t ∧
        s.EndsWith t (if (s.cable c).InService then s.cancelledReplies c else []) ∧ t.Trains c s.now ∧ t.Pending .portState ∧
        (t.cable c).suspect = (s.cable c).suspect ∧ s.OthersKept t c ∧ ((s.cable c).InService → s.LeftService t c) ∧
        t.counters.get (.link (.cable c) .faults) = s.counters.get (.link (.cable c) .faults)) ∧
      (m.parking = false → m.sender = s.frame → m.sender ≠ unassigned → ∃ t, exec (.hello (.cable c) ⟨stamp, m⟩) s = .next t ∧
        s.EndsWith t (if (s.cable c).InService then s.cancelledReplies c else []) ∧ (t.cable c).state = .quarantined ∧
        (t.cable c).neighbour = none ∧ t.Pending .frameClash ∧ t.Pending .portState ∧
        s.Counts t (.link (.cable c) .frameClashes) 1 ∧ s.Counts t (.link (.cable c) .quarantines) 0 ∧
        (t.cable c).suspect = (s.cable c).suspect ∧ s.OthersKept t c ∧ ((s.cable c).InService → s.LeftService t c)) ∧
      (m.parking = false → (m.sender ≠ s.frame ∨ m.sender = unassigned) →
        ∀ n : Neighbour, n = ⟨m.sender, m.rank, m.upstream, m.role⟩ →
          ((s.cable c).state = .greeting → ∃ t, exec (.hello (.cable c) ⟨stamp, m⟩) s = .next t ∧
            (((s.setRx (.cable c) .afterCheck).modCable c fun u =>
              { u with
                state := .active
                greetEnds := none
                repeatAt := none
                echoDue := none
                neighbour := some n
                lastActive := some s.now
                cleanRun := some (s.now + 125000000)
                helloDue := true }).raise .portState).select.Quiet t ∧
            ((t.cable c).helloDue = true ∨ t.Sends (.cable c) (.hello (t.helloMsg false)) .maintenance)) ∧
          ((s.cable c).InService →
            ((s.cable c).neighbour = some n →
              exec (.hello (.cable c) ⟨stamp, m⟩) s = .next (s.setRx (.cable c) .afterCheck)) ∧
            ((s.cable c).neighbour ≠ some n → ∃ t, exec (.hello (.cable c) ⟨stamp, m⟩) s = .next t ∧
              ((s.setRx (.cable c) .afterCheck).modCable c fun u => { u with neighbour := some n }).select.Quiet t))))

/-- R24, R25, R43, R16: an ECHO taken by a cable port. With the returned flag clear its return waits, in place of one already
waiting. A returned ECHO with the outstanding number is a good return in TRAINING: the first sends the next ECHO, the second takes
the port to GREETING, with the 10 ms wait, the 1 ms repeat and a HELLO. In ACTIVE one with the number of the sent loop test ends the
test with the round trip. Every other returned ECHO is discarded. The row of a loop test's timeout, due 100 µs after its ECHO was
sent (`RowsDue`), answers TIMED-OUT at whatever moment it is taken once the ECHO has been sent (the model's choice, log entry 4); a
training ECHO's 100 µs begin when it is called for (log entry 19). -/
def Obligations.EchoTaken : Prop :=
  ∀ (s : State) (c : Cable) (stamp : Ago), s.BusyLaw →
    (s.collects (.cable c) = true → ∀ u, u = s.setRx (.cable c) .afterCheck → ∀ n : BitVec 8,
      exec (.echo (.cable c) stamp ⟨false, n⟩) s =
        .next ((u.modCable c fun x => { x with returnDue := some n }).arbitrate (.cable c)) ∧
      ((s.cable c).state = .training →
        ((∀ e, (s.cable c).outstanding = some e → e.number ≠ n) →
          exec (.echo (.cable c) stamp ⟨true, n⟩) s = .next u) ∧
        (∀ e, (s.cable c).outstanding = some e → e.number = n →
          ((s.cable c).goodRun = 0 → exec (.echo (.cable c) stamp ⟨true, n⟩) s = .next ((u.modCable c fun x =>
            { x with
              goodRun := 1
              echoCounter := x.echoCounter + 1#8
              outstanding := some ⟨x.echoCounter, s.now + 12500⟩
              echoDue := some x.echoCounter }).arbitrate (.cable c))) ∧
          (1 ≤ (s.cable c).goodRun → ∃ t, exec (.echo (.cable c) stamp ⟨true, n⟩) s = .next t ∧
            (t.cable c).state = .greeting ∧ (t.cable c).greetEnds = some (s.now + 1250000) ∧
            (t.cable c).repeatAt = some (s.now + 125000) ∧ (t.cable c).outstanding = none ∧ t.Pending .portState ∧
            s.OthersKept t c ∧ ((t.cable c).helloDue = true ∨
              t.Sends (.cable c) (.hello (t.helloMsg false)) .maintenance)))) ∧
      ((s.cable c).state = .greeting ∨ (s.cable c).state = .draining →
        exec (.echo (.cable c) stamp ⟨true, n⟩) s = .next u) ∧
      ((s.cable c).state = .active → ∀ i : Instr,
        (i = .echo (.cable c) stamp ⟨true, n⟩ ∨ i = .loopTestReturn c stamp n) →
        (∀ l t1, (s.cable c).loop = some l → l.sent = some t1 → l.number = n → exec i s =
          .next ((u.modCable c fun x => { x with loop := none }).sendReply
            ⟨l.op.arrival, l.op.origin, l.op.tag, 0x14#8, .done,
              [BitVec.ofInt 32 (max (-2 ^ 31) (min (2 ^ 31 - 1) (stampDiff (s.rxStamp stamp) t1)))]⟩)) ∧
        ((∀ l, (s.cable c).loop = some l → l.sent = none ∨ l.number ≠ n) → exec i s = .next u))) ∧
    (∀ l, (s.cable c).loop = some l →
      (l.sent ≠ none → exec (.loopTestTimeout c) s = .next ((s.modCable c fun x => { x with loop := none }).sendReply
        ⟨l.op.arrival, l.op.origin, l.op.tag, 0x14#8, .timedOut, []⟩)) ∧
      (l.sent = none → exec (.loopTestTimeout c) s = .next s))

/-! ### Messages on the link -/

/-- R3, R4, R5, R7, R8, R10, R19: what a transmitter sends for a well-formed message, a receiver collects as that message, good,
whatever control word ends the run; it has the length of its kind, and its last word is the check word. Every bit of a frame code
decodes to the frame alone that it stands for (R6). Every word of each kind has its heading pair and its fields at the bits that R19
gives them, and zeros at every other bit. -/
def Obligations.MessageRoundTrip : Prop :=
  (∀ m : LinkMsg, m.wellFormed = true → (wordsOf m).length = msgLength m ∧
    ∀ abort : Bool, receiveWords (wordsOf m) abort = .good m) ∧
  (∀ (c : BitVec 7) (n : Frame), frameOfCode? c = some n ↔ c = frameCode n) ∧
  (∀ (c : BitVec 7) (d : Dest), destOfCode? c = some d ↔ c = destCode d) ∧
  (∀ m : LinkMsg, wordsOf m = bodyWords m ++ [BitVec.ofNat 16 (msgLength m) ++ crc (bodyWords m)]) ∧
  (∀ m : SampleMsg, m.samples.length ≤ 64 → ∃ w0 w1 w2, bodyWords (.sample m) = w0 :: w1 :: w2 :: m.samples ∧
    w0.extractLsb' 24 8 = 0x11#8 ∧ (w0.extractLsb' 18 6).toNat = m.stream.val ∧ w0.extractLsb' 16 2 = m.quality ∧
    w0.extractLsb' 8 8 = m.seq ∧ w0.getLsbD 7 = false ∧ (w0.extractLsb' 0 7).toNat = m.samples.length ∧
    w1.extractLsb' 16 16 = 0#16 ∧ w1.extractLsb' 0 16 = m.stamp.extractLsb' 32 16 ∧ w2 = m.stamp.extractLsb' 0 32) ∧
  (∀ m : RequestMsg, m.operands.length ≤ 12 → ∃ w0 w1, bodyWords (.request m) = w0 :: w1 :: m.operands ∧
    ControlHeading w0 0x12#8 m.dest m.origin m.tag m.hop ∧ w1.extractLsb' 24 8 = m.kind ∧ w1.extractLsb' 4 20 = 0#20 ∧
    (w1.extractLsb' 0 4).toNat = m.operands.length) ∧
  (∀ m : ReplyMsg, m.results.length ≤ 16 → ∃ w0 w1, bodyWords (.reply m) = w0 :: w1 :: m.results ∧
    ControlHeading w0 0x14#8 m.dest m.origin m.tag m.hop ∧ w1.extractLsb' 24 8 = m.kind ∧
    w1.extractLsb' 20 4 = m.outcome ∧ w1.extractLsb' 5 15 = 0#15 ∧ (w1.extractLsb' 0 5).toNat = m.results.length) ∧
  (∀ m : NoticeMsg, ∃ w0 w1, bodyWords (.notice m) = [w0, w1] ∧ ControlHeading w0 0x18#8 m.dest m.origin 0#4 m.hop ∧
    w1.extractLsb' 12 20 = 0#20 ∧ w1.extractLsb' 0 12 = m.flags) ∧
  (∀ m : TriggerMsg, ∃ w0 w1 w2, bodyWords (.trigger m) = [w0, w1, w2] ∧ w0.extractLsb' 24 8 = 0x21#8 ∧
    w0.extractLsb' 17 7 = frameCode m.origin ∧ w0.extractLsb' 15 2 = m.quality ∧
    (w0.extractLsb' 11 4).toNat = m.line.val ∧ w0.extractLsb' 8 3 = 0#3 ∧ w0.extractLsb' 0 8 = m.seq ∧
    w1.extractLsb' 20 12 = 0#12 ∧ w1.extractLsb' 16 4 = m.hop ∧ w1.extractLsb' 0 16 = m.fire.extractLsb' 32 16 ∧
    w2 = m.fire.extractLsb' 0 32) ∧
  (∀ n : BitVec 8, ∃ w0, bodyWords (.query n) = [w0] ∧ w0.extractLsb' 24 8 = 0x41#8 ∧ w0.extractLsb' 8 16 = 0#16 ∧
    w0.extractLsb' 0 8 = n) ∧
  (∀ m : AnswerMsg, ∃ w0 w1, bodyWords (.answer m) = [w0, w1, m.t2.extractLsb' 0 32, m.t3.extractLsb' 0 32] ∧
    w0.extractLsb' 24 8 = 0x42#8 ∧ w0.extractLsb' 18 6 = 0#6 ∧ w0.extractLsb' 16 2 = m.quality ∧ w0.extractLsb' 12 4 = 0#4 ∧
    w0.extractLsb' 8 4 = m.rank ∧ w0.extractLsb' 0 8 = m.number ∧ w1.extractLsb' 16 16 = m.t2.extractLsb' 32 16 ∧
    w1.extractLsb' 0 16 = m.t3.extractLsb' 32 16) ∧
  (∀ m : HelloMsg, ∃ w0, bodyWords (.hello m) = [w0] ∧ w0.extractLsb' 24 8 = 0x81#8 ∧
    w0.extractLsb' 17 7 = frameCode m.sender ∧ w0.getLsbD 16 = m.upstream.isSome ∧
    (m.upstream = none → w0.extractLsb' 9 7 = 0#7) ∧ (∀ f, m.upstream = some f → w0.extractLsb' 9 7 = frameCode f) ∧
    w0.extractLsb' 5 4 = m.rank ∧ w0.getLsbD 4 = decide (m.role = .source) ∧ w0.getLsbD 3 = m.parking ∧
    w0.extractLsb' 0 3 = 0#3) ∧
  (∀ m : EchoMsg, ∃ w0, bodyWords (.echo m) = [w0] ∧ w0.extractLsb' 24 8 = 0x82#8 ∧ w0.extractLsb' 9 15 = 0#15 ∧
    w0.getLsbD 8 = m.returned ∧ w0.extractLsb' 0 8 = m.number) ∧
  codeWords.length = 35 ∧ codeWords.Pairwise (· < ·) ∧
    (∀ c : BitVec 7, c ∈ codeWords ↔ ((List.range 7).filter c.getLsbD).length = 3) ∧
    (∀ n : Frame, codeWords[n.val]? = some (frameCode n)) ∧ codeWords[32]? = some (destCode .neighbour)

/-- R4, R7, R8, R10, R11, R12, R13, R14, R15, R16: what a receiver makes of a run of data words `w :: l` that a control word ends, ABORT
or not. A heading pair that is none of the nine is a heading fault. With a kind: a count field out of its range is a check failure; a
run shorter than the message's length is an aborted message when ABORT ends it and else a check failure, cut short; in a run of that
length or more the last word of the message is its check word, which fails or passes by length and CRC; a message that passes is good,
or has an address-code fault exactly when a frame-code field of its kind does not decode. The commands a run stands for: the one of its
verdict, an overrun after a good message alone, and the control word that lets the next message start. Three points are the model's
choice: after ABORT no control word is taken (log entry 12); the step of the CRC for each message bit, the register's top bit compared
with it, then a shift and, when they differ, the generator combined (log entry 17); and the overrun after the hand-over (log entry
28). -/
def Obligations.ReceivedRuns : Prop :=
  (∀ (w : Word) (l : List Word) (abort : Bool),
    (w.extractLsb' 24 8 ∉ [0x11#8, 0x12#8, 0x14#8, 0x18#8, 0x21#8, 0x41#8, 0x42#8, 0x81#8, 0x82#8] →
      receiveWords (w :: l) abort = .headingFault ∧ overran (w :: l) = false) ∧
    ∀ k : Kind, w.extractLsb' 24 8 = (match k with
        | .sample => 0x11#8 | .request => 0x12#8 | .reply => 0x14#8 | .notice => 0x18#8 | .trigger => 0x21#8
        | .query => 0x41#8 | .answer => 0x42#8 | .hello => 0x81#8 | .echo => 0x82#8) →
      ((k = .sample ∧ ((w.extractLsb' 0 7).toNat = 0 ∨ 64 < (w.extractLsb' 0 7).toNat)) ∨
          (k = .request ∧ ∃ y, l.head? = some y ∧ 12 < (y.extractLsb' 0 4).toNat) ∨
          (k = .reply ∧ ∃ y, l.head? = some y ∧ 16 < (y.extractLsb' 0 5).toNat) →
        receiveWords (w :: l) abort = .checkFailure .countField ∧ overran (w :: l) = false) ∧
      ((k = .request ∨ k = .reply) → l = [] →
        receiveWords (w :: l) abort = (if abort then .aborted else .checkFailure .cutShort) ∧ overran (w :: l) = false) ∧
      ∀ n : Nat,
        (k = .sample ∧ 1 ≤ (w.extractLsb' 0 7).toNat ∧ (w.extractLsb' 0 7).toNat ≤ 64 ∧ n = (w.extractLsb' 0 7).toNat + 4) ∨
            (k = .request ∧ ∃ y, l.head? = some y ∧ (y.extractLsb' 0 4).toNat ≤ 12 ∧ n = (y.extractLsb' 0 4).toNat + 3) ∨
            (k = .reply ∧ ∃ y, l.head? = some y ∧ (y.extractLsb' 0 5).toNat ≤ 16 ∧ n = (y.extractLsb' 0 5).toNat + 3) ∨
            (k = .notice ∧ n = 3) ∨ (k = .trigger ∧ n = 4) ∨ (k = .answer ∧ n = 5) ∨
            ((k = .query ∨ k = .hello ∨ k = .echo) ∧ n = 2) →
          overran (w :: l) = decide (n < l.length + 1) ∧
          (l.length + 1 < n → receiveWords (w :: l) abort = if abort then .aborted else .checkFailure .cutShort) ∧
          ∀ (body : List Word) (check : Word), (w :: l).take n = body ++ [check] → n ≤ l.length + 1 →
            ((check.extractLsb' 16 16 ≠ BitVec.ofNat 16 n ∨ check.extractLsb' 0 16 ≠ crc body) →
              receiveWords (w :: l) abort = .checkFailure .checkWord) ∧
            (check.extractLsb' 16 16 = BitVec.ofNat 16 n → check.extractLsb' 0 16 = crc body →
              ∀ fault : Prop, (fault ↔
                  ((k = .request ∨ k = .reply ∨ k = .notice) ∧
                    (destOfCode? (w.extractLsb' 17 7) = none ∨ frameOfCode? (w.extractLsb' 10 7) = none)) ∨
                  ((k = .trigger ∨ k = .hello) ∧ frameOfCode? (w.extractLsb' 17 7) = none) ∨
                  (k = .hello ∧ w.getLsbD 16 = true ∧ frameOfCode? (w.extractLsb' 9 7) = none)) →
                (fault → receiveWords (w :: l) abort = .addressFault) ∧
                (¬ fault → ∃ m, receiveWords (w :: l) abort = .good m ∧ kindOf m = k ∧ fieldsOf? k body = some m))) ∧
  (crc [] = 0xFFFF#16 ∧ ∀ (ws : List Word) (w : Word), crc (ws ++ [w]) = (List.range 32).foldl
    (fun (r : BitVec 16) i => if r.getLsbD 15 = w.getLsbD (31 - i) then r <<< 1 else (r <<< 1) ^^^ 0b0011100011001011#16) (crc ws)) ∧
  ∀ (p : Port) (ago : Ago) (ws : List Word) (abort : Bool),
    (receiveWords ws abort = .headingFault → commandsOf p ago ws abort = [.headingFault p, .huntEnds p]) ∧
    (∀ c, receiveWords ws abort = .checkFailure c → commandsOf p ago ws abort = [.checkFailure p c, .huntEnds p]) ∧
    (receiveWords ws abort = .addressFault → commandsOf p ago ws abort = [.addressCodeFault p, .huntEnds p]) ∧
    (receiveWords ws abort = .aborted → commandsOf p ago ws abort = [.abortedMessage p]) ∧
    ∀ m, receiveWords ws abort = .good m → ∀ i : Instr,
      i = (match m with
        | .sample m => .sampleBlock p ago m
        | .request m => .controlRequest p ⟨ago, m⟩
        | .reply m => .controlReply p ⟨ago, m⟩
        | .notice m => .notice p ⟨ago, m⟩
        | .trigger m => .triggerNotice p ⟨ago, m⟩
        | .query n => .delayQuery p ago n
        | .answer m => .timeAnswer p ago m
        | .hello m => .hello p ⟨ago, m⟩
        | .echo m => .echo p ago m) →
      commandsOf p ago ws abort =
        if overran ws = true then [i, .checkFailure p .overrun, .huntEnds p] else [i, .huntEnds p]

/-! ### Rules of the whole machine -/

/-- R122, R184, R186, R185: after any command that changed the advertised rank, the upstream frame, the role or the frame number,
every port in GREETING, ACTIVE or DRAINING has a HELLO waiting or in transmission with the values as they stand. In two events the
calls come before the evaluation, and no second call follows it (log entry 33): in a change of frame number (R197) a HELLO in
transmission has the new frame number, and in a change from SOURCE to FOLLOW (R131) it has the role FOLLOW and rank 15. After any command that made a flag pending and enabled that was not both before, exactly one NOTICE has been formed,
and is counted once, as sent or as not sent: a report of a loss that the change of an event has overtaken is taken in that event, with
one NOTICE for both (the model's choice, log entry 35). A NOTICE goes to F for the hub's own frame and else by the frame route table, when the frames allow it and the queue has room. -/
def Obligations.EventsAreAnnounced : Prop :=
  (∀ (i : Instr) (s t : State), exec i s = .next t →
    (t.rank ≠ s.rank ∨ t.upstreamFrame ≠ s.upstreamFrame ∨ t.time.role ≠ s.time.role ∨ t.frame ≠ s.frame →
      ∀ c, (t.cable c).state = .greeting ∨ (t.cable c).InService →
        (i ≠ .setFrameNumber → (i = .setTiming → s.time.role = .follow) →
          (t.cable c).helloDue = true ∨ t.Sends (.cable c) (.hello (t.helloMsg false)) .maintenance) ∧
        (i = .setFrameNumber → (t.cable c).helloDue = true ∨
          ∃ m : HelloMsg, m.sender = t.frame ∧ t.Sends (.cable c) (.hello m) .maintenance) ∧
        (i = .setTiming → s.time.role = .source → (t.cable c).helloDue = true ∨
          t.Sends (.cable c) (.hello ⟨t.frame, s.upstreamFrame, 15#4, .follow, false⟩) .maintenance)) ∧
    ((∃ b, (t.notices.flags &&& t.notices.mask).getLsbD b = true ∧
        (s.notices.flags &&& s.notices.mask).getLsbD b = false) →
      (s.Counts t (.control .noticesSent) 1 ∧ s.Counts t (.control .noticesNotSent) 0) ∨
        (s.Counts t (.control .noticesSent) 0 ∧ s.Counts t (.control .noticesNotSent) 1))) ∧
  ∀ (s : State) (m : NoticeMsg),
    m = ⟨.frame s.notices.report, s.frame, 15#4, s.notices.flags &&& s.notices.mask⟩ →
    (s.notices.report = s.frame →
      (s.fActive = true → (s.port .f).queues.control.length < 8 → s.sendNotice =
        ((s.modQueues .f fun q => { q with control := q.control ++ [⟨.notice m, false⟩] }).arbitrate .f).count
          (.control .noticesSent)) ∧
      (s.fActive = false ∨ 8 ≤ (s.port .f).queues.control.length →
        s.sendNotice = s.count (.control .noticesNotSent))) ∧
    (s.notices.report ≠ s.frame →
      (s.frame = unassigned ∨ s.notices.report = unassigned ∨ s.routeTo s.notices.report = none →
        s.sendNotice = s.count (.control .noticesNotSent)) ∧
      (s.frame ≠ unassigned → s.notices.report ≠ unassigned → ∀ c, s.routeTo s.notices.report = some c →
        ((s.port (.cable c)).queues.control.length < 8 → s.sendNotice =
          ((s.modQueues (.cable c) fun q => { q with control := q.control ++ [⟨.notice m, false⟩] }).arbitrate
            (.cable c)).count (.control .noticesSent)) ∧
        (8 ≤ (s.port (.cable c)).queues.control.length → s.sendNotice = s.count (.control .noticesNotSent))))

/-- R189, R191, R192, R193: a counter is incremented saturating at 2^32 − 1, and no other with it. In every command of every state no
counter falls, and one at 2^32 − 1 stays there, but for PIN_RESET, a HUB RESTART that takes effect, and a CLEAR COUNTERS, which lets
only the counters of the group it names fall. An idle step that takes no row that is due lets none fall. -/
def Obligations.CountersOnlyRise : Prop :=
  (∀ (s : State) (i : CounterId) (n : Nat), s.Counts (s.countBy i n) i n ∧
    ∀ j, j ≠ i → (s.countBy i n).counters.get j = s.counters.get j) ∧
  (∀ (i : Instr) (s t : State), exec i s = .next t →
    ∀ rises : CounterId → Prop, (∀ k, rises k ↔ s.counters.get k ≤ t.counters.get k ∧
      (s.counters.get k = 0xFFFFFFFF#32 → t.counters.get k = 0xFFFFFFFF#32)) →
    (∃ pins, i = .pinReset pins) ∨
      ((s.ctl.restartPending = true ∨ ∃ r rest, s.Serves .hubRestart r rest) ∧ ∃ u : State, t = u.restart) ∨
      (i = .clearCounters ∧ ∃ r rest g, s.Serves .clearCounters r rest ∧ Group.NamedBy g (r.op 0) (r.op 1) ∧
        ∀ k, k.group ≠ g → rises k) ∨
      ∀ k, rises k) ∧
  ∀ s t : State, s.pending = [] → s.selector.lossReport ≠ none ∨ s.nextDue = none → step s = .next t →
    ∀ k, s.counters.get k ≤ t.counters.get k

/-- R94, R113, R107, R104, R111, R139, R142, R148, R151: every step keeps the range law of C and I; the ranges of the timing
settings; the bounds of the history and of the three runs; the recent-trigger list at most 16 long without a repeated pair; the
schedule at most 8 long, and in non-decreasing order of fire time as long as its fire times lie within 2^46 ns of one another (the
rule reads the order modulo 2^48, where it hangs together only then); the pin widths; and the cadence settings in range, with a next
edge exactly in SINGLE and CONTINUOUS. -/
def Obligations.TimeAndTriggerLawsKept : Prop :=
  ∀ s t : State, step s = .next t →
    (s.RateLaw → t.RateLaw) ∧ (s.SettingsLaw → t.SettingsLaw) ∧ (s.ExchangeLaw → t.ExchangeLaw) ∧
      (s.RecentLaw → t.RecentLaw) ∧ (s.ScheduleLaw → t.ScheduleLaw) ∧ (s.OrderLaw → t.SpreadLaw → t.OrderLaw) ∧
      (s.PinLaw → t.PinLaw) ∧ (s.CadenceLaw → t.CadenceLaw)

/-- R30, R20, R27, R35, R55, R59, R17: every step keeps each error budget at most 8; a neighbour entry exactly in ACTIVE and
DRAINING, a drain exactly in DRAINING and a loop test in ACTIVE only; every output queue within its capacity and every bulk pass
count at most 7; and a transmission without its transmit stamp exactly until the tick on which its first word passes. -/
def Obligations.PortLawsKept : Prop :=
  ∀ s t : State, step s = .next t →
    (s.BudgetLaw → t.BudgetLaw) ∧ (s.ServiceLaw → t.ServiceLaw) ∧ (s.CapacityLaw → t.CapacityLaw) ∧
      (s.StampLaw → t.StampLaw)

/-- R51, R53, R56, R58, R1, R40: every step keeps, together, the slot conservation law, the held counts, the empty-queue law, what a
port's state lets it transmit, and that an idle transmitter whose arbiter makes choices leaves nothing waiting. -/
def Obligations.QueuesSoundKept : Prop :=
  ∀ s t : State, step s = .next t →
    s.EmptyQueueLaw → s.TransmitLaw → s.BusyLaw → s.ConservationLaw → s.HeldLaw →
      t.EmptyQueueLaw ∧ t.TransmitLaw ∧ t.BusyLaw ∧ t.ConservationLaw ∧ t.HeldLaw

/-- R67, R68, R71, R77, R88, R171, R161, R54, R195: every step keeps every valid stream entry sound, with a legal pending route, and
its held count within its quota; every alternate frame route beside a primary it differs from; the request queue at most 8 long and
the watermark one of its four values; and, while the hub is unassigned, the pool and the trigger schedule empty. -/
def Obligations.TableLawsKept : Prop :=
  ∀ s t : State, step s = .next t →
    (s.StreamLaw → t.StreamLaw) ∧ (s.QuotaLaw → t.QuotaLaw) ∧ (s.RouteLaw → t.RouteLaw) ∧
      (s.ControlLaw → t.ControlLaw) ∧ (s.UnassignedLaw → t.UnassignedLaw)

/-- R95, R96, R127, R125: every step keeps the state SOURCE exactly in role SOURCE, an upstream port exactly in ACQUIRING and
LOCKED, and an upstream port, ACTIVE or DRAINING, that passes the keep test; and, with it, the law of R96: in role SOURCE C is the
trim and I is 0, the query timer and the holdover timer are stopped, no query is outstanding and the history is empty. -/
def Obligations.UpstreamLawKept : Prop :=
  ∀ s t : State, step s = .next t → s.UpstreamLaw → t.UpstreamLaw ∧ (s.SourceLaw → t.SourceLaw)

/-- Pin reset, with any pin levels, and the model's reset state satisfy every law that the other statements say is kept. -/
def Obligations.ResetSatisfiesAll : Prop :=
  (∀ (pins : PinLevels) (waiting : List Instr), ∀ s, s = State.atPinReset pins waiting →
    s.RateLaw ∧ s.SettingsLaw ∧ s.ExchangeLaw ∧ s.RecentLaw ∧ s.ScheduleLaw ∧ s.OrderLaw ∧ s.PinLaw ∧ s.CadenceLaw ∧
      s.BudgetLaw ∧ s.StampLaw ∧ s.SourceLaw ∧ s.ServiceLaw ∧ s.CapacityLaw ∧ s.EmptyQueueLaw ∧ s.TransmitLaw ∧ s.BusyLaw ∧
      s.ConservationLaw ∧ s.HeldLaw ∧
      s.StreamLaw ∧ s.QuotaLaw ∧ s.RouteLaw ∧ s.ControlLaw ∧ s.UnassignedLaw ∧ s.UpstreamLaw) ∧
  State.reset = State.atPinReset Config.unconnectedPins []
end

