-- ==== Sys2Proof/Laws/State.lean ====
section
/-! SUPPORT. One lemma per field per update of the state, true by unfolding, and the laws of the tables: reading a port, a
cable port or a vector entry after a change of one. -/

namespace Sys2Proof

/-! ### Tables -/

theorem Cable.mem_all (c : Cable) : c ∈ Cable.all := by cases c <;> decide

theorem Port.mem_all (p : Port) : p ∈ Port.all := by
  rcases p with (_ | _ | _ | _) | _ <;> decide

@[simp] theorem PerCable.get_set_self {α : Type} (t : PerCable α) (c : Cable) (x : α) : (t.set c x).get c = x := by
  cases c <;> rfl

theorem PerCable.get_set_ne {α : Type} (t : PerCable α) {c d : Cable} (x : α) (h : d ≠ c) :
    (t.set c x).get d = t.get d := by
  cases c <;> cases d <;> first | rfl | exact absurd rfl h

theorem PerCable.get_set {α : Type} (t : PerCable α) (c d : Cable) (x : α) :
    (t.set c x).get d = if d = c then x else t.get d := by
  cases c <;> cases d <;> rfl

@[simp] theorem PerCable.get_of {α : Type} (g : Cable → α) (c : Cable) : (PerCable.of g).get c = g c := by
  cases c <;> rfl

@[simp] theorem PerCable.set_get {α : Type} (t : PerCable α) (c : Cable) : t.set c (t.get c) = t := by
  cases c <;> rfl

@[simp] theorem PerCable.set_set {α : Type} (t : PerCable α) (c : Cable) (x y : α) : (t.set c x).set c y = t.set c y := by
  cases c <;> rfl

@[simp] theorem PerPort.get_set_self {α : Type} (t : PerPort α) (p : Port) (x : α) : (t.set p x).get p = x := by
  cases p <;> simp [PerPort.get, PerPort.set]

theorem PerPort.get_set_ne {α : Type} (t : PerPort α) {p q : Port} (x : α) (h : q ≠ p) :
    (t.set p x).get q = t.get q := by
  rcases p with c | _ <;> rcases q with d | _ <;> first | rfl | skip
  · exact PerCable.get_set_ne _ _ fun e => h (e ▸ rfl)
  · exact absurd rfl h

theorem PerPort.get_set {α : Type} (t : PerPort α) (p q : Port) (x : α) :
    (t.set p x).get q = if q = p then x else t.get q := by
  by_cases h : q = p
  · simp [h]
  · simp [h, PerPort.get_set_ne]

@[simp] theorem PerPort.get_of {α : Type} (g : Port → α) (p : Port) : (PerPort.of g).get p = g p := by
  cases p <;> simp [PerPort.get, PerPort.of]

@[simp] theorem PerPort.set_get {α : Type} (t : PerPort α) (p : Port) : t.set p (t.get p) = t := by
  cases p <;> simp [PerPort.get, PerPort.set]

@[simp] theorem PerPort.set_set {α : Type} (t : PerPort α) (p : Port) (x y : α) : (t.set p x).set p y = t.set p y := by
  cases p <;> simp [PerPort.set]

theorem getElem_modifyAt {α : Type} {n : Nat} (v : Vector α n) (i : Fin n) (f : α → α) (j : Nat) (h : j < n) :
    (modifyAt v i f)[j] = if j = i.val then f v[i] else v[j] := by
  by_cases e : j = i.val
  · subst e; simp [modifyAt]
  · simp [modifyAt, e, Ne.symm e]

@[simp] theorem getElem_modifyAt_self {α : Type} {n : Nat} (v : Vector α n) (i : Fin n) (f : α → α) :
    (modifyAt v i f)[i.val] = f v[i] := by rw [getElem_modifyAt, if_pos rfl]

theorem getElem_modifyAt_ne {α : Type} {n : Nat} (v : Vector α n) {i j : Fin n} (f : α → α) (h : j ≠ i) :
    (modifyAt v i f)[j.val] = v[j.val] := by
  rw [getElem_modifyAt, if_neg fun e => h (Fin.ext e)]

@[simp] theorem getElem_mapAll {α β : Type} {n : Nat} (f : α → β) (v : Vector α n) (i : Nat) (h : i < n) :
    (mapAll f v)[i] = f v[i] := by simp [mapAll]

end Sys2Proof

namespace Sys2Proof.Machine

/-! ### Fields of an updated state -/

@[simp] theorem State.modPort_straps (s : State) (p : Port) (f : PortUnit → PortUnit) : (s.modPort p f).straps = s.straps := rfl

@[simp] theorem State.modPort_frame (s : State) (p : Port) (f : PortUnit → PortUnit) : (s.modPort p f).frame = s.frame := rfl

theorem State.modPort_ports (s : State) (p : Port) (f : PortUnit → PortUnit) :
    (s.modPort p f).ports = s.ports.set p (f (s.ports.get p)) := rfl

@[simp] theorem State.modPort_cables (s : State) (p : Port) (f : PortUnit → PortUnit) : (s.modPort p f).cables = s.cables := rfl

@[simp] theorem State.modPort_fActive (s : State) (p : Port) (f : PortUnit → PortUnit) : (s.modPort p f).fActive = s.fActive := rfl

@[simp] theorem State.modPort_pool (s : State) (p : Port) (f : PortUnit → PortUnit) : (s.modPort p f).pool = s.pool := rfl

@[simp] theorem State.modPort_streams (s : State) (p : Port) (f : PortUnit → PortUnit) : (s.modPort p f).streams = s.streams := rfl

@[simp] theorem State.modPort_time (s : State) (p : Port) (f : PortUnit → PortUnit) : (s.modPort p f).time = s.time := rfl

@[simp] theorem State.modPort_selector (s : State) (p : Port) (f : PortUnit → PortUnit) : (s.modPort p f).selector = s.selector := rfl

@[simp] theorem State.modPort_trig (s : State) (p : Port) (f : PortUnit → PortUnit) : (s.modPort p f).trig = s.trig := rfl

@[simp] theorem State.modPort_cadence (s : State) (p : Port) (f : PortUnit → PortUnit) : (s.modPort p f).cadence = s.cadence := rfl

@[simp] theorem State.modPort_ctl (s : State) (p : Port) (f : PortUnit → PortUnit) : (s.modPort p f).ctl = s.ctl := rfl

@[simp] theorem State.modPort_notices (s : State) (p : Port) (f : PortUnit → PortUnit) : (s.modPort p f).notices = s.notices := rfl

@[simp] theorem State.modPort_counters (s : State) (p : Port) (f : PortUnit → PortUnit) : (s.modPort p f).counters = s.counters := rfl

@[simp] theorem State.modPort_now (s : State) (p : Port) (f : PortUnit → PortUnit) : (s.modPort p f).now = s.now := rfl
@[simp] theorem State.modPort_stampNs (s : State) (p : Port) (f : PortUnit → PortUnit) : (s.modPort p f).stampNs = s.stampNs := rfl
@[simp] theorem State.modPort_stamps (s : State) (p : Port) (f : PortUnit → PortUnit) : (s.modPort p f).stamps = s.stamps := rfl

@[simp] theorem State.modPort_pending (s : State) (p : Port) (f : PortUnit → PortUnit) : (s.modPort p f).pending = s.pending := rfl

@[simp] theorem State.modCable_straps (s : State) (c : Cable) (f : CableUnit → CableUnit) : (s.modCable c f).straps = s.straps := rfl

@[simp] theorem State.modCable_frame (s : State) (c : Cable) (f : CableUnit → CableUnit) : (s.modCable c f).frame = s.frame := rfl

@[simp] theorem State.modCable_ports (s : State) (c : Cable) (f : CableUnit → CableUnit) : (s.modCable c f).ports = s.ports := rfl

theorem State.modCable_cables (s : State) (c : Cable) (f : CableUnit → CableUnit) :
    (s.modCable c f).cables = s.cables.set c (f (s.cables.get c)) := rfl

@[simp] theorem State.modCable_fActive (s : State) (c : Cable) (f : CableUnit → CableUnit) : (s.modCable c f).fActive = s.fActive := rfl

@[simp] theorem State.modCable_pool (s : State) (c : Cable) (f : CableUnit → CableUnit) : (s.modCable c f).pool = s.pool := rfl

@[simp] theorem State.modCable_streams (s : State) (c : Cable) (f : CableUnit → CableUnit) : (s.modCable c f).streams = s.streams := rfl

@[simp] theorem State.modCable_time (s : State) (c : Cable) (f : CableUnit → CableUnit) : (s.modCable c f).time = s.time := rfl

@[simp] theorem State.modCable_selector (s : State) (c : Cable) (f : CableUnit → CableUnit) : (s.modCable c f).selector = s.selector := rfl

@[simp] theorem State.modCable_trig (s : State) (c : Cable) (f : CableUnit → CableUnit) : (s.modCable c f).trig = s.trig := rfl

@[simp] theorem State.modCable_cadence (s : State) (c : Cable) (f : CableUnit → CableUnit) : (s.modCable c f).cadence = s.cadence := rfl

@[simp] theorem State.modCable_ctl (s : State) (c : Cable) (f : CableUnit → CableUnit) : (s.modCable c f).ctl = s.ctl := rfl

@[simp] theorem State.modCable_notices (s : State) (c : Cable) (f : CableUnit → CableUnit) : (s.modCable c f).notices = s.notices := rfl

@[simp] theorem State.modCable_counters (s : State) (c : Cable) (f : CableUnit → CableUnit) : (s.modCable c f).counters = s.counters := rfl

@[simp] theorem State.modCable_now (s : State) (c : Cable) (f : CableUnit → CableUnit) : (s.modCable c f).now = s.now := rfl
@[simp] theorem State.modCable_stampNs (s : State) (c : Cable) (f : CableUnit → CableUnit) : (s.modCable c f).stampNs = s.stampNs := rfl
@[simp] theorem State.modCable_stamps (s : State) (c : Cable) (f : CableUnit → CableUnit) : (s.modCable c f).stamps = s.stamps := rfl

@[simp] theorem State.modCable_pending (s : State) (c : Cable) (f : CableUnit → CableUnit) : (s.modCable c f).pending = s.pending := rfl

@[simp] theorem State.modQueues_straps (s : State) (p : Port) (f : Queues → Queues) : (s.modQueues p f).straps = s.straps := rfl

@[simp] theorem State.modQueues_frame (s : State) (p : Port) (f : Queues → Queues) : (s.modQueues p f).frame = s.frame := rfl

theorem State.modQueues_ports (s : State) (p : Port) (f : Queues → Queues) :
    (s.modQueues p f).ports = s.ports.set p { s.ports.get p with queues := f (s.ports.get p).queues } := rfl

@[simp] theorem State.modQueues_cables (s : State) (p : Port) (f : Queues → Queues) : (s.modQueues p f).cables = s.cables := rfl

@[simp] theorem State.modQueues_fActive (s : State) (p : Port) (f : Queues → Queues) : (s.modQueues p f).fActive = s.fActive := rfl

@[simp] theorem State.modQueues_pool (s : State) (p : Port) (f : Queues → Queues) : (s.modQueues p f).pool = s.pool := rfl

@[simp] theorem State.modQueues_streams (s : State) (p : Port) (f : Queues → Queues) : (s.modQueues p f).streams = s.streams := rfl

@[simp] theorem State.modQueues_time (s : State) (p : Port) (f : Queues → Queues) : (s.modQueues p f).time = s.time := rfl

@[simp] theorem State.modQueues_selector (s : State) (p : Port) (f : Queues → Queues) : (s.modQueues p f).selector = s.selector := rfl

@[simp] theorem State.modQueues_trig (s : State) (p : Port) (f : Queues → Queues) : (s.modQueues p f).trig = s.trig := rfl

@[simp] theorem State.modQueues_cadence (s : State) (p : Port) (f : Queues → Queues) : (s.modQueues p f).cadence = s.cadence := rfl

@[simp] theorem State.modQueues_ctl (s : State) (p : Port) (f : Queues → Queues) : (s.modQueues p f).ctl = s.ctl := rfl

@[simp] theorem State.modQueues_notices (s : State) (p : Port) (f : Queues → Queues) : (s.modQueues p f).notices = s.notices := rfl

@[simp] theorem State.modQueues_counters (s : State) (p : Port) (f : Queues → Queues) : (s.modQueues p f).counters = s.counters := rfl

@[simp] theorem State.modQueues_now (s : State) (p : Port) (f : Queues → Queues) : (s.modQueues p f).now = s.now := rfl
@[simp] theorem State.modQueues_stampNs (s : State) (p : Port) (f : Queues → Queues) : (s.modQueues p f).stampNs = s.stampNs := rfl
@[simp] theorem State.modQueues_stamps (s : State) (p : Port) (f : Queues → Queues) : (s.modQueues p f).stamps = s.stamps := rfl

@[simp] theorem State.modQueues_pending (s : State) (p : Port) (f : Queues → Queues) : (s.modQueues p f).pending = s.pending := rfl

@[simp] theorem State.modPool_straps (s : State) (f : Pool → Pool) : (s.modPool f).straps = s.straps := rfl

@[simp] theorem State.modPool_frame (s : State) (f : Pool → Pool) : (s.modPool f).frame = s.frame := rfl

@[simp] theorem State.modPool_ports (s : State) (f : Pool → Pool) : (s.modPool f).ports = s.ports := rfl

@[simp] theorem State.modPool_cables (s : State) (f : Pool → Pool) : (s.modPool f).cables = s.cables := rfl

@[simp] theorem State.modPool_fActive (s : State) (f : Pool → Pool) : (s.modPool f).fActive = s.fActive := rfl

@[simp] theorem State.modPool_pool (s : State) (f : Pool → Pool) :
    (s.modPool f).pool = f s.pool := rfl

@[simp] theorem State.modPool_streams (s : State) (f : Pool → Pool) : (s.modPool f).streams = s.streams := rfl

@[simp] theorem State.modPool_time (s : State) (f : Pool → Pool) : (s.modPool f).time = s.time := rfl

@[simp] theorem State.modPool_selector (s : State) (f : Pool → Pool) : (s.modPool f).selector = s.selector := rfl

@[simp] theorem State.modPool_trig (s : State) (f : Pool → Pool) : (s.modPool f).trig = s.trig := rfl

@[simp] theorem State.modPool_cadence (s : State) (f : Pool → Pool) : (s.modPool f).cadence = s.cadence := rfl

@[simp] theorem State.modPool_ctl (s : State) (f : Pool → Pool) : (s.modPool f).ctl = s.ctl := rfl

@[simp] theorem State.modPool_notices (s : State) (f : Pool → Pool) : (s.modPool f).notices = s.notices := rfl

@[simp] theorem State.modPool_counters (s : State) (f : Pool → Pool) : (s.modPool f).counters = s.counters := rfl

@[simp] theorem State.modPool_now (s : State) (f : Pool → Pool) : (s.modPool f).now = s.now := rfl
@[simp] theorem State.modPool_stampNs (s : State) (f : Pool → Pool) : (s.modPool f).stampNs = s.stampNs := rfl
@[simp] theorem State.modPool_stamps (s : State) (f : Pool → Pool) : (s.modPool f).stamps = s.stamps := rfl

@[simp] theorem State.modPool_pending (s : State) (f : Pool → Pool) : (s.modPool f).pending = s.pending := rfl

@[simp] theorem State.modEntry_straps (s : State) (n : StreamNo) (f : StreamEntry → StreamEntry) : (s.modEntry n f).straps = s.straps := rfl

@[simp] theorem State.modEntry_frame (s : State) (n : StreamNo) (f : StreamEntry → StreamEntry) : (s.modEntry n f).frame = s.frame := rfl

@[simp] theorem State.modEntry_ports (s : State) (n : StreamNo) (f : StreamEntry → StreamEntry) : (s.modEntry n f).ports = s.ports := rfl

@[simp] theorem State.modEntry_cables (s : State) (n : StreamNo) (f : StreamEntry → StreamEntry) : (s.modEntry n f).cables = s.cables := rfl

@[simp] theorem State.modEntry_fActive (s : State) (n : StreamNo) (f : StreamEntry → StreamEntry) : (s.modEntry n f).fActive = s.fActive := rfl

@[simp] theorem State.modEntry_pool (s : State) (n : StreamNo) (f : StreamEntry → StreamEntry) : (s.modEntry n f).pool = s.pool := rfl

@[simp] theorem State.modEntry_streams (s : State) (n : StreamNo) (f : StreamEntry → StreamEntry) :
    (s.modEntry n f).streams = modifyAt s.streams n fun u => { u with entry := f u.entry } := rfl

@[simp] theorem State.modEntry_time (s : State) (n : StreamNo) (f : StreamEntry → StreamEntry) : (s.modEntry n f).time = s.time := rfl

@[simp] theorem State.modEntry_selector (s : State) (n : StreamNo) (f : StreamEntry → StreamEntry) : (s.modEntry n f).selector = s.selector := rfl

@[simp] theorem State.modEntry_trig (s : State) (n : StreamNo) (f : StreamEntry → StreamEntry) : (s.modEntry n f).trig = s.trig := rfl

@[simp] theorem State.modEntry_cadence (s : State) (n : StreamNo) (f : StreamEntry → StreamEntry) : (s.modEntry n f).cadence = s.cadence := rfl

@[simp] theorem State.modEntry_ctl (s : State) (n : StreamNo) (f : StreamEntry → StreamEntry) : (s.modEntry n f).ctl = s.ctl := rfl

@[simp] theorem State.modEntry_notices (s : State) (n : StreamNo) (f : StreamEntry → StreamEntry) : (s.modEntry n f).notices = s.notices := rfl

@[simp] theorem State.modEntry_counters (s : State) (n : StreamNo) (f : StreamEntry → StreamEntry) : (s.modEntry n f).counters = s.counters := rfl

@[simp] theorem State.modEntry_now (s : State) (n : StreamNo) (f : StreamEntry → StreamEntry) : (s.modEntry n f).now = s.now := rfl
@[simp] theorem State.modEntry_stampNs (s : State) (n : StreamNo) (f : StreamEntry → StreamEntry) : (s.modEntry n f).stampNs = s.stampNs := rfl
@[simp] theorem State.modEntry_stamps (s : State) (n : StreamNo) (f : StreamEntry → StreamEntry) : (s.modEntry n f).stamps = s.stamps := rfl

@[simp] theorem State.modEntry_pending (s : State) (n : StreamNo) (f : StreamEntry → StreamEntry) : (s.modEntry n f).pending = s.pending := rfl

@[simp] theorem State.modRun_straps (s : State) (n : StreamNo) (f : StreamRun → StreamRun) : (s.modRun n f).straps = s.straps := rfl

@[simp] theorem State.modRun_frame (s : State) (n : StreamNo) (f : StreamRun → StreamRun) : (s.modRun n f).frame = s.frame := rfl

@[simp] theorem State.modRun_ports (s : State) (n : StreamNo) (f : StreamRun → StreamRun) : (s.modRun n f).ports = s.ports := rfl

@[simp] theorem State.modRun_cables (s : State) (n : StreamNo) (f : StreamRun → StreamRun) : (s.modRun n f).cables = s.cables := rfl

@[simp] theorem State.modRun_fActive (s : State) (n : StreamNo) (f : StreamRun → StreamRun) : (s.modRun n f).fActive = s.fActive := rfl

@[simp] theorem State.modRun_pool (s : State) (n : StreamNo) (f : StreamRun → StreamRun) : (s.modRun n f).pool = s.pool := rfl

@[simp] theorem State.modRun_streams (s : State) (n : StreamNo) (f : StreamRun → StreamRun) :
    (s.modRun n f).streams = modifyAt s.streams n fun u => { u with run := f u.run } := rfl

@[simp] theorem State.modRun_time (s : State) (n : StreamNo) (f : StreamRun → StreamRun) : (s.modRun n f).time = s.time := rfl

@[simp] theorem State.modRun_selector (s : State) (n : StreamNo) (f : StreamRun → StreamRun) : (s.modRun n f).selector = s.selector := rfl

@[simp] theorem State.modRun_trig (s : State) (n : StreamNo) (f : StreamRun → StreamRun) : (s.modRun n f).trig = s.trig := rfl

@[simp] theorem State.modRun_cadence (s : State) (n : StreamNo) (f : StreamRun → StreamRun) : (s.modRun n f).cadence = s.cadence := rfl

@[simp] theorem State.modRun_ctl (s : State) (n : StreamNo) (f : StreamRun → StreamRun) : (s.modRun n f).ctl = s.ctl := rfl

@[simp] theorem State.modRun_notices (s : State) (n : StreamNo) (f : StreamRun → StreamRun) : (s.modRun n f).notices = s.notices := rfl

@[simp] theorem State.modRun_counters (s : State) (n : StreamNo) (f : StreamRun → StreamRun) : (s.modRun n f).counters = s.counters := rfl

@[simp] theorem State.modRun_now (s : State) (n : StreamNo) (f : StreamRun → StreamRun) : (s.modRun n f).now = s.now := rfl
@[simp] theorem State.modRun_stampNs (s : State) (n : StreamNo) (f : StreamRun → StreamRun) : (s.modRun n f).stampNs = s.stampNs := rfl
@[simp] theorem State.modRun_stamps (s : State) (n : StreamNo) (f : StreamRun → StreamRun) : (s.modRun n f).stamps = s.stamps := rfl

@[simp] theorem State.modRun_pending (s : State) (n : StreamNo) (f : StreamRun → StreamRun) : (s.modRun n f).pending = s.pending := rfl

@[simp] theorem State.modTime_straps (s : State) (f : RackTime → RackTime) : (s.modTime f).straps = s.straps := rfl

@[simp] theorem State.modTime_frame (s : State) (f : RackTime → RackTime) : (s.modTime f).frame = s.frame := rfl

@[simp] theorem State.modTime_ports (s : State) (f : RackTime → RackTime) : (s.modTime f).ports = s.ports := rfl

@[simp] theorem State.modTime_cables (s : State) (f : RackTime → RackTime) : (s.modTime f).cables = s.cables := rfl

@[simp] theorem State.modTime_fActive (s : State) (f : RackTime → RackTime) : (s.modTime f).fActive = s.fActive := rfl

@[simp] theorem State.modTime_pool (s : State) (f : RackTime → RackTime) : (s.modTime f).pool = s.pool := rfl

@[simp] theorem State.modTime_streams (s : State) (f : RackTime → RackTime) : (s.modTime f).streams = s.streams := rfl

@[simp] theorem State.modTime_time (s : State) (f : RackTime → RackTime) :
    (s.modTime f).time = f s.time := rfl

@[simp] theorem State.modTime_selector (s : State) (f : RackTime → RackTime) : (s.modTime f).selector = s.selector := rfl

@[simp] theorem State.modTime_trig (s : State) (f : RackTime → RackTime) : (s.modTime f).trig = s.trig := rfl

@[simp] theorem State.modTime_cadence (s : State) (f : RackTime → RackTime) : (s.modTime f).cadence = s.cadence := rfl

@[simp] theorem State.modTime_ctl (s : State) (f : RackTime → RackTime) : (s.modTime f).ctl = s.ctl := rfl

@[simp] theorem State.modTime_notices (s : State) (f : RackTime → RackTime) : (s.modTime f).notices = s.notices := rfl

@[simp] theorem State.modTime_counters (s : State) (f : RackTime → RackTime) : (s.modTime f).counters = s.counters := rfl

@[simp] theorem State.modTime_now (s : State) (f : RackTime → RackTime) : (s.modTime f).now = s.now := rfl
@[simp] theorem State.modTime_stampNs (s : State) (f : RackTime → RackTime) : (s.modTime f).stampNs = s.stampNs := rfl
@[simp] theorem State.modTime_stamps (s : State) (f : RackTime → RackTime) : (s.modTime f).stamps = s.stamps := rfl

@[simp] theorem State.modTime_pending (s : State) (f : RackTime → RackTime) : (s.modTime f).pending = s.pending := rfl

@[simp] theorem State.modSelector_straps (s : State) (f : Selector → Selector) : (s.modSelector f).straps = s.straps := rfl

@[simp] theorem State.modSelector_frame (s : State) (f : Selector → Selector) : (s.modSelector f).frame = s.frame := rfl

@[simp] theorem State.modSelector_ports (s : State) (f : Selector → Selector) : (s.modSelector f).ports = s.ports := rfl

@[simp] theorem State.modSelector_cables (s : State) (f : Selector → Selector) : (s.modSelector f).cables = s.cables := rfl

@[simp] theorem State.modSelector_fActive (s : State) (f : Selector → Selector) : (s.modSelector f).fActive = s.fActive := rfl

@[simp] theorem State.modSelector_pool (s : State) (f : Selector → Selector) : (s.modSelector f).pool = s.pool := rfl

@[simp] theorem State.modSelector_streams (s : State) (f : Selector → Selector) : (s.modSelector f).streams = s.streams := rfl

@[simp] theorem State.modSelector_time (s : State) (f : Selector → Selector) : (s.modSelector f).time = s.time := rfl

@[simp] theorem State.modSelector_selector (s : State) (f : Selector → Selector) :
    (s.modSelector f).selector = f s.selector := rfl

@[simp] theorem State.modSelector_trig (s : State) (f : Selector → Selector) : (s.modSelector f).trig = s.trig := rfl

@[simp] theorem State.modSelector_cadence (s : State) (f : Selector → Selector) : (s.modSelector f).cadence = s.cadence := rfl

@[simp] theorem State.modSelector_ctl (s : State) (f : Selector → Selector) : (s.modSelector f).ctl = s.ctl := rfl

@[simp] theorem State.modSelector_notices (s : State) (f : Selector → Selector) : (s.modSelector f).notices = s.notices := rfl

@[simp] theorem State.modSelector_counters (s : State) (f : Selector → Selector) : (s.modSelector f).counters = s.counters := rfl

@[simp] theorem State.modSelector_now (s : State) (f : Selector → Selector) : (s.modSelector f).now = s.now := rfl
@[simp] theorem State.modSelector_stampNs (s : State) (f : Selector → Selector) : (s.modSelector f).stampNs = s.stampNs := rfl
@[simp] theorem State.modSelector_stamps (s : State) (f : Selector → Selector) : (s.modSelector f).stamps = s.stamps := rfl

@[simp] theorem State.modSelector_pending (s : State) (f : Selector → Selector) : (s.modSelector f).pending = s.pending := rfl

@[simp] theorem State.modTrig_straps (s : State) (f : TriggerUnit → TriggerUnit) : (s.modTrig f).straps = s.straps := rfl

@[simp] theorem State.modTrig_frame (s : State) (f : TriggerUnit → TriggerUnit) : (s.modTrig f).frame = s.frame := rfl

@[simp] theorem State.modTrig_ports (s : State) (f : TriggerUnit → TriggerUnit) : (s.modTrig f).ports = s.ports := rfl

@[simp] theorem State.modTrig_cables (s : State) (f : TriggerUnit → TriggerUnit) : (s.modTrig f).cables = s.cables := rfl

@[simp] theorem State.modTrig_fActive (s : State) (f : TriggerUnit → TriggerUnit) : (s.modTrig f).fActive = s.fActive := rfl

@[simp] theorem State.modTrig_pool (s : State) (f : TriggerUnit → TriggerUnit) : (s.modTrig f).pool = s.pool := rfl

@[simp] theorem State.modTrig_streams (s : State) (f : TriggerUnit → TriggerUnit) : (s.modTrig f).streams = s.streams := rfl

@[simp] theorem State.modTrig_time (s : State) (f : TriggerUnit → TriggerUnit) : (s.modTrig f).time = s.time := rfl

@[simp] theorem State.modTrig_selector (s : State) (f : TriggerUnit → TriggerUnit) : (s.modTrig f).selector = s.selector := rfl

@[simp] theorem State.modTrig_trig (s : State) (f : TriggerUnit → TriggerUnit) :
    (s.modTrig f).trig = f s.trig := rfl

@[simp] theorem State.modTrig_cadence (s : State) (f : TriggerUnit → TriggerUnit) : (s.modTrig f).cadence = s.cadence := rfl

@[simp] theorem State.modTrig_ctl (s : State) (f : TriggerUnit → TriggerUnit) : (s.modTrig f).ctl = s.ctl := rfl

@[simp] theorem State.modTrig_notices (s : State) (f : TriggerUnit → TriggerUnit) : (s.modTrig f).notices = s.notices := rfl

@[simp] theorem State.modTrig_counters (s : State) (f : TriggerUnit → TriggerUnit) : (s.modTrig f).counters = s.counters := rfl

@[simp] theorem State.modTrig_now (s : State) (f : TriggerUnit → TriggerUnit) : (s.modTrig f).now = s.now := rfl
@[simp] theorem State.modTrig_stampNs (s : State) (f : TriggerUnit → TriggerUnit) : (s.modTrig f).stampNs = s.stampNs := rfl
@[simp] theorem State.modTrig_stamps (s : State) (f : TriggerUnit → TriggerUnit) : (s.modTrig f).stamps = s.stamps := rfl

@[simp] theorem State.modTrig_pending (s : State) (f : TriggerUnit → TriggerUnit) : (s.modTrig f).pending = s.pending := rfl

@[simp] theorem State.modCadence_straps (s : State) (k : Fin 2) (f : CadenceUnit → CadenceUnit) : (s.modCadence k f).straps = s.straps := rfl

@[simp] theorem State.modCadence_frame (s : State) (k : Fin 2) (f : CadenceUnit → CadenceUnit) : (s.modCadence k f).frame = s.frame := rfl

@[simp] theorem State.modCadence_ports (s : State) (k : Fin 2) (f : CadenceUnit → CadenceUnit) : (s.modCadence k f).ports = s.ports := rfl

@[simp] theorem State.modCadence_cables (s : State) (k : Fin 2) (f : CadenceUnit → CadenceUnit) : (s.modCadence k f).cables = s.cables := rfl

@[simp] theorem State.modCadence_fActive (s : State) (k : Fin 2) (f : CadenceUnit → CadenceUnit) : (s.modCadence k f).fActive = s.fActive := rfl

@[simp] theorem State.modCadence_pool (s : State) (k : Fin 2) (f : CadenceUnit → CadenceUnit) : (s.modCadence k f).pool = s.pool := rfl

@[simp] theorem State.modCadence_streams (s : State) (k : Fin 2) (f : CadenceUnit → CadenceUnit) : (s.modCadence k f).streams = s.streams := rfl

@[simp] theorem State.modCadence_time (s : State) (k : Fin 2) (f : CadenceUnit → CadenceUnit) : (s.modCadence k f).time = s.time := rfl

@[simp] theorem State.modCadence_selector (s : State) (k : Fin 2) (f : CadenceUnit → CadenceUnit) : (s.modCadence k f).selector = s.selector := rfl

@[simp] theorem State.modCadence_trig (s : State) (k : Fin 2) (f : CadenceUnit → CadenceUnit) : (s.modCadence k f).trig = s.trig := rfl

@[simp] theorem State.modCadence_cadence (s : State) (k : Fin 2) (f : CadenceUnit → CadenceUnit) :
    (s.modCadence k f).cadence = modifyAt s.cadence k f := rfl

@[simp] theorem State.modCadence_ctl (s : State) (k : Fin 2) (f : CadenceUnit → CadenceUnit) : (s.modCadence k f).ctl = s.ctl := rfl

@[simp] theorem State.modCadence_notices (s : State) (k : Fin 2) (f : CadenceUnit → CadenceUnit) : (s.modCadence k f).notices = s.notices := rfl

@[simp] theorem State.modCadence_counters (s : State) (k : Fin 2) (f : CadenceUnit → CadenceUnit) : (s.modCadence k f).counters = s.counters := rfl

@[simp] theorem State.modCadence_now (s : State) (k : Fin 2) (f : CadenceUnit → CadenceUnit) : (s.modCadence k f).now = s.now := rfl
@[simp] theorem State.modCadence_stampNs (s : State) (k : Fin 2) (f : CadenceUnit → CadenceUnit) : (s.modCadence k f).stampNs = s.stampNs := rfl
@[simp] theorem State.modCadence_stamps (s : State) (k : Fin 2) (f : CadenceUnit → CadenceUnit) : (s.modCadence k f).stamps = s.stamps := rfl

@[simp] theorem State.modCadence_pending (s : State) (k : Fin 2) (f : CadenceUnit → CadenceUnit) : (s.modCadence k f).pending = s.pending := rfl

@[simp] theorem State.modCtl_straps (s : State) (f : ControlUnit → ControlUnit) : (s.modCtl f).straps = s.straps := rfl

@[simp] theorem State.modCtl_frame (s : State) (f : ControlUnit → ControlUnit) : (s.modCtl f).frame = s.frame := rfl

@[simp] theorem State.modCtl_ports (s : State) (f : ControlUnit → ControlUnit) : (s.modCtl f).ports = s.ports := rfl

@[simp] theorem State.modCtl_cables (s : State) (f : ControlUnit → ControlUnit) : (s.modCtl f).cables = s.cables := rfl

@[simp] theorem State.modCtl_fActive (s : State) (f : ControlUnit → ControlUnit) : (s.modCtl f).fActive = s.fActive := rfl

@[simp] theorem State.modCtl_pool (s : State) (f : ControlUnit → ControlUnit) : (s.modCtl f).pool = s.pool := rfl

@[simp] theorem State.modCtl_streams (s : State) (f : ControlUnit → ControlUnit) : (s.modCtl f).streams = s.streams := rfl

@[simp] theorem State.modCtl_time (s : State) (f : ControlUnit → ControlUnit) : (s.modCtl f).time = s.time := rfl

@[simp] theorem State.modCtl_selector (s : State) (f : ControlUnit → ControlUnit) : (s.modCtl f).selector = s.selector := rfl

@[simp] theorem State.modCtl_trig (s : State) (f : ControlUnit → ControlUnit) : (s.modCtl f).trig = s.trig := rfl

@[simp] theorem State.modCtl_cadence (s : State) (f : ControlUnit → ControlUnit) : (s.modCtl f).cadence = s.cadence := rfl

@[simp] theorem State.modCtl_ctl (s : State) (f : ControlUnit → ControlUnit) :
    (s.modCtl f).ctl = f s.ctl := rfl

@[simp] theorem State.modCtl_notices (s : State) (f : ControlUnit → ControlUnit) : (s.modCtl f).notices = s.notices := rfl

@[simp] theorem State.modCtl_counters (s : State) (f : ControlUnit → ControlUnit) : (s.modCtl f).counters = s.counters := rfl

@[simp] theorem State.modCtl_now (s : State) (f : ControlUnit → ControlUnit) : (s.modCtl f).now = s.now := rfl
@[simp] theorem State.modCtl_stampNs (s : State) (f : ControlUnit → ControlUnit) : (s.modCtl f).stampNs = s.stampNs := rfl
@[simp] theorem State.modCtl_stamps (s : State) (f : ControlUnit → ControlUnit) : (s.modCtl f).stamps = s.stamps := rfl

@[simp] theorem State.modCtl_pending (s : State) (f : ControlUnit → ControlUnit) : (s.modCtl f).pending = s.pending := rfl

@[simp] theorem State.modNotices_straps (s : State) (f : NoticeUnit → NoticeUnit) : (s.modNotices f).straps = s.straps := rfl

@[simp] theorem State.modNotices_frame (s : State) (f : NoticeUnit → NoticeUnit) : (s.modNotices f).frame = s.frame := rfl

@[simp] theorem State.modNotices_ports (s : State) (f : NoticeUnit → NoticeUnit) : (s.modNotices f).ports = s.ports := rfl

@[simp] theorem State.modNotices_cables (s : State) (f : NoticeUnit → NoticeUnit) : (s.modNotices f).cables = s.cables := rfl

@[simp] theorem State.modNotices_fActive (s : State) (f : NoticeUnit → NoticeUnit) : (s.modNotices f).fActive = s.fActive := rfl

@[simp] theorem State.modNotices_pool (s : State) (f : NoticeUnit → NoticeUnit) : (s.modNotices f).pool = s.pool := rfl

@[simp] theorem State.modNotices_streams (s : State) (f : NoticeUnit → NoticeUnit) : (s.modNotices f).streams = s.streams := rfl

@[simp] theorem State.modNotices_time (s : State) (f : NoticeUnit → NoticeUnit) : (s.modNotices f).time = s.time := rfl

@[simp] theorem State.modNotices_selector (s : State) (f : NoticeUnit → NoticeUnit) : (s.modNotices f).selector = s.selector := rfl

@[simp] theorem State.modNotices_trig (s : State) (f : NoticeUnit → NoticeUnit) : (s.modNotices f).trig = s.trig := rfl

@[simp] theorem State.modNotices_cadence (s : State) (f : NoticeUnit → NoticeUnit) : (s.modNotices f).cadence = s.cadence := rfl

@[simp] theorem State.modNotices_ctl (s : State) (f : NoticeUnit → NoticeUnit) : (s.modNotices f).ctl = s.ctl := rfl

@[simp] theorem State.modNotices_notices (s : State) (f : NoticeUnit → NoticeUnit) :
    (s.modNotices f).notices = f s.notices := rfl

@[simp] theorem State.modNotices_counters (s : State) (f : NoticeUnit → NoticeUnit) : (s.modNotices f).counters = s.counters := rfl

@[simp] theorem State.modNotices_now (s : State) (f : NoticeUnit → NoticeUnit) : (s.modNotices f).now = s.now := rfl
@[simp] theorem State.modNotices_stampNs (s : State) (f : NoticeUnit → NoticeUnit) : (s.modNotices f).stampNs = s.stampNs := rfl
@[simp] theorem State.modNotices_stamps (s : State) (f : NoticeUnit → NoticeUnit) : (s.modNotices f).stamps = s.stamps := rfl

@[simp] theorem State.modNotices_pending (s : State) (f : NoticeUnit → NoticeUnit) : (s.modNotices f).pending = s.pending := rfl

@[simp] theorem State.countBy_straps (s : State) (i : CounterId) (k : Nat) : (s.countBy i k).straps = s.straps := rfl

@[simp] theorem State.countBy_frame (s : State) (i : CounterId) (k : Nat) : (s.countBy i k).frame = s.frame := rfl

@[simp] theorem State.countBy_ports (s : State) (i : CounterId) (k : Nat) : (s.countBy i k).ports = s.ports := rfl

@[simp] theorem State.countBy_cables (s : State) (i : CounterId) (k : Nat) : (s.countBy i k).cables = s.cables := rfl

@[simp] theorem State.countBy_fActive (s : State) (i : CounterId) (k : Nat) : (s.countBy i k).fActive = s.fActive := rfl

@[simp] theorem State.countBy_pool (s : State) (i : CounterId) (k : Nat) : (s.countBy i k).pool = s.pool := rfl

@[simp] theorem State.countBy_streams (s : State) (i : CounterId) (k : Nat) : (s.countBy i k).streams = s.streams := rfl

@[simp] theorem State.countBy_time (s : State) (i : CounterId) (k : Nat) : (s.countBy i k).time = s.time := rfl

@[simp] theorem State.countBy_selector (s : State) (i : CounterId) (k : Nat) : (s.countBy i k).selector = s.selector := rfl

@[simp] theorem State.countBy_trig (s : State) (i : CounterId) (k : Nat) : (s.countBy i k).trig = s.trig := rfl

@[simp] theorem State.countBy_cadence (s : State) (i : CounterId) (k : Nat) : (s.countBy i k).cadence = s.cadence := rfl

@[simp] theorem State.countBy_ctl (s : State) (i : CounterId) (k : Nat) : (s.countBy i k).ctl = s.ctl := rfl

@[simp] theorem State.countBy_notices (s : State) (i : CounterId) (k : Nat) : (s.countBy i k).notices = s.notices := rfl

@[simp] theorem State.countBy_counters (s : State) (i : CounterId) (k : Nat) :
    (s.countBy i k).counters = s.counters.add i k := rfl

@[simp] theorem State.countBy_now (s : State) (i : CounterId) (k : Nat) : (s.countBy i k).now = s.now := rfl
@[simp] theorem State.countBy_stampNs (s : State) (i : CounterId) (k : Nat) : (s.countBy i k).stampNs = s.stampNs := rfl
@[simp] theorem State.countBy_stamps (s : State) (i : CounterId) (k : Nat) : (s.countBy i k).stamps = s.stamps := rfl

@[simp] theorem State.countBy_pending (s : State) (i : CounterId) (k : Nat) : (s.countBy i k).pending = s.pending := rfl

@[simp] theorem State.count_straps (s : State) (i : CounterId) : (s.count i).straps = s.straps := rfl

@[simp] theorem State.count_frame (s : State) (i : CounterId) : (s.count i).frame = s.frame := rfl

@[simp] theorem State.count_ports (s : State) (i : CounterId) : (s.count i).ports = s.ports := rfl

@[simp] theorem State.count_cables (s : State) (i : CounterId) : (s.count i).cables = s.cables := rfl

@[simp] theorem State.count_fActive (s : State) (i : CounterId) : (s.count i).fActive = s.fActive := rfl

@[simp] theorem State.count_pool (s : State) (i : CounterId) : (s.count i).pool = s.pool := rfl

@[simp] theorem State.count_streams (s : State) (i : CounterId) : (s.count i).streams = s.streams := rfl

@[simp] theorem State.count_time (s : State) (i : CounterId) : (s.count i).time = s.time := rfl

@[simp] theorem State.count_selector (s : State) (i : CounterId) : (s.count i).selector = s.selector := rfl

@[simp] theorem State.count_trig (s : State) (i : CounterId) : (s.count i).trig = s.trig := rfl

@[simp] theorem State.count_cadence (s : State) (i : CounterId) : (s.count i).cadence = s.cadence := rfl

@[simp] theorem State.count_ctl (s : State) (i : CounterId) : (s.count i).ctl = s.ctl := rfl

@[simp] theorem State.count_notices (s : State) (i : CounterId) : (s.count i).notices = s.notices := rfl

@[simp] theorem State.count_counters (s : State) (i : CounterId) :
    (s.count i).counters = s.counters.add i 1 := rfl

@[simp] theorem State.count_now (s : State) (i : CounterId) : (s.count i).now = s.now := rfl
@[simp] theorem State.count_stampNs (s : State) (i : CounterId) : (s.count i).stampNs = s.stampNs := rfl
@[simp] theorem State.count_stamps (s : State) (i : CounterId) : (s.count i).stamps = s.stamps := rfl

@[simp] theorem State.count_pending (s : State) (i : CounterId) : (s.count i).pending = s.pending := rfl

@[simp] theorem State.raise_straps (s : State) (x : Flag) : (s.raise x).straps = s.straps := rfl

@[simp] theorem State.raise_frame (s : State) (x : Flag) : (s.raise x).frame = s.frame := rfl

@[simp] theorem State.raise_ports (s : State) (x : Flag) : (s.raise x).ports = s.ports := rfl

@[simp] theorem State.raise_cables (s : State) (x : Flag) : (s.raise x).cables = s.cables := rfl

@[simp] theorem State.raise_fActive (s : State) (x : Flag) : (s.raise x).fActive = s.fActive := rfl

@[simp] theorem State.raise_pool (s : State) (x : Flag) : (s.raise x).pool = s.pool := rfl

@[simp] theorem State.raise_streams (s : State) (x : Flag) : (s.raise x).streams = s.streams := rfl

@[simp] theorem State.raise_time (s : State) (x : Flag) : (s.raise x).time = s.time := rfl

@[simp] theorem State.raise_selector (s : State) (x : Flag) : (s.raise x).selector = s.selector := rfl

@[simp] theorem State.raise_trig (s : State) (x : Flag) : (s.raise x).trig = s.trig := rfl

@[simp] theorem State.raise_cadence (s : State) (x : Flag) : (s.raise x).cadence = s.cadence := rfl

@[simp] theorem State.raise_ctl (s : State) (x : Flag) : (s.raise x).ctl = s.ctl := rfl

@[simp] theorem State.raise_notices (s : State) (x : Flag) :
    (s.raise x).notices = { s.notices with flags := s.notices.flags ||| x.set } := rfl

@[simp] theorem State.raise_counters (s : State) (x : Flag) : (s.raise x).counters = s.counters := rfl

@[simp] theorem State.raise_now (s : State) (x : Flag) : (s.raise x).now = s.now := rfl
@[simp] theorem State.raise_stampNs (s : State) (x : Flag) : (s.raise x).stampNs = s.stampNs := rfl
@[simp] theorem State.raise_stamps (s : State) (x : Flag) : (s.raise x).stamps = s.stamps := rfl

@[simp] theorem State.raise_pending (s : State) (x : Flag) : (s.raise x).pending = s.pending := rfl

@[simp] theorem State.setRx_straps (s : State) (p : Port) (x : RxPhase) : (s.setRx p x).straps = s.straps := rfl

@[simp] theorem State.setRx_frame (s : State) (p : Port) (x : RxPhase) : (s.setRx p x).frame = s.frame := rfl

theorem State.setRx_ports (s : State) (p : Port) (x : RxPhase) :
    (s.setRx p x).ports = s.ports.set p { s.ports.get p with rx := x } := rfl

@[simp] theorem State.setRx_cables (s : State) (p : Port) (x : RxPhase) : (s.setRx p x).cables = s.cables := rfl

@[simp] theorem State.setRx_fActive (s : State) (p : Port) (x : RxPhase) : (s.setRx p x).fActive = s.fActive := rfl

@[simp] theorem State.setRx_pool (s : State) (p : Port) (x : RxPhase) : (s.setRx p x).pool = s.pool := rfl

@[simp] theorem State.setRx_streams (s : State) (p : Port) (x : RxPhase) : (s.setRx p x).streams = s.streams := rfl

@[simp] theorem State.setRx_time (s : State) (p : Port) (x : RxPhase) : (s.setRx p x).time = s.time := rfl

@[simp] theorem State.setRx_selector (s : State) (p : Port) (x : RxPhase) : (s.setRx p x).selector = s.selector := rfl

@[simp] theorem State.setRx_trig (s : State) (p : Port) (x : RxPhase) : (s.setRx p x).trig = s.trig := rfl

@[simp] theorem State.setRx_cadence (s : State) (p : Port) (x : RxPhase) : (s.setRx p x).cadence = s.cadence := rfl

@[simp] theorem State.setRx_ctl (s : State) (p : Port) (x : RxPhase) : (s.setRx p x).ctl = s.ctl := rfl

@[simp] theorem State.setRx_notices (s : State) (p : Port) (x : RxPhase) : (s.setRx p x).notices = s.notices := rfl

@[simp] theorem State.setRx_counters (s : State) (p : Port) (x : RxPhase) : (s.setRx p x).counters = s.counters := rfl

@[simp] theorem State.setRx_now (s : State) (p : Port) (x : RxPhase) : (s.setRx p x).now = s.now := rfl
@[simp] theorem State.setRx_stampNs (s : State) (p : Port) (x : RxPhase) : (s.setRx p x).stampNs = s.stampNs := rfl
@[simp] theorem State.setRx_stamps (s : State) (p : Port) (x : RxPhase) : (s.setRx p x).stamps = s.stamps := rfl

@[simp] theorem State.setRx_pending (s : State) (p : Port) (x : RxPhase) : (s.setRx p x).pending = s.pending := rfl

/-! ### Readers of an updated state -/

theorem State.modPort_port (s : State) (p : Port) (f : PortUnit → PortUnit) (q : Port) :
    (s.modPort p f).port q = if q = p then f (s.port p) else s.port q :=
  PerPort.get_set ..

@[simp] theorem State.modPort_port_self (s : State) (p : Port) (f : PortUnit → PortUnit) : (s.modPort p f).port p = f (s.port p) :=
  PerPort.get_set_self ..

@[simp] theorem State.modPort_cable (s : State) (p : Port) (f : PortUnit → PortUnit) (d : Cable) : (s.modPort p f).cable d = s.cable d := rfl

@[simp] theorem State.modPort_ns (s : State) (p : Port) (f : PortUnit → PortUnit) : (s.modPort p f).ns = s.ns := rfl

@[simp] theorem State.modPort_quality (s : State) (p : Port) (f : PortUnit → PortUnit) : (s.modPort p f).quality = s.quality := rfl

@[simp] theorem State.modCable_port (s : State) (c : Cable) (f : CableUnit → CableUnit) (q : Port) : (s.modCable c f).port q = s.port q := rfl

theorem State.modCable_cable (s : State) (c : Cable) (f : CableUnit → CableUnit) (d : Cable) :
    (s.modCable c f).cable d = if d = c then f (s.cable c) else s.cable d :=
  PerCable.get_set ..

@[simp] theorem State.modCable_cable_self (s : State) (c : Cable) (f : CableUnit → CableUnit) : (s.modCable c f).cable c = f (s.cable c) :=
  PerCable.get_set_self ..

@[simp] theorem State.modCable_ns (s : State) (c : Cable) (f : CableUnit → CableUnit) : (s.modCable c f).ns = s.ns := rfl

@[simp] theorem State.modCable_quality (s : State) (c : Cable) (f : CableUnit → CableUnit) : (s.modCable c f).quality = s.quality := rfl

theorem State.modQueues_port (s : State) (p : Port) (f : Queues → Queues) (q : Port) :
    (s.modQueues p f).port q = if q = p then { s.port p with queues := f (s.port p).queues } else s.port q :=
  PerPort.get_set ..

@[simp] theorem State.modQueues_port_self (s : State) (p : Port) (f : Queues → Queues) : (s.modQueues p f).port p = { s.port p with queues := f (s.port p).queues } :=
  PerPort.get_set_self ..

@[simp] theorem State.modQueues_cable (s : State) (p : Port) (f : Queues → Queues) (d : Cable) : (s.modQueues p f).cable d = s.cable d := rfl

@[simp] theorem State.modQueues_ns (s : State) (p : Port) (f : Queues → Queues) : (s.modQueues p f).ns = s.ns := rfl

@[simp] theorem State.modQueues_quality (s : State) (p : Port) (f : Queues → Queues) : (s.modQueues p f).quality = s.quality := rfl

@[simp] theorem State.modPool_port (s : State) (f : Pool → Pool) (q : Port) : (s.modPool f).port q = s.port q := rfl

@[simp] theorem State.modPool_cable (s : State) (f : Pool → Pool) (d : Cable) : (s.modPool f).cable d = s.cable d := rfl

@[simp] theorem State.modPool_ns (s : State) (f : Pool → Pool) : (s.modPool f).ns = s.ns := rfl

@[simp] theorem State.modPool_quality (s : State) (f : Pool → Pool) : (s.modPool f).quality = s.quality := rfl

@[simp] theorem State.modEntry_port (s : State) (n : StreamNo) (f : StreamEntry → StreamEntry) (q : Port) : (s.modEntry n f).port q = s.port q := rfl

@[simp] theorem State.modEntry_cable (s : State) (n : StreamNo) (f : StreamEntry → StreamEntry) (d : Cable) : (s.modEntry n f).cable d = s.cable d := rfl

@[simp] theorem State.modEntry_ns (s : State) (n : StreamNo) (f : StreamEntry → StreamEntry) : (s.modEntry n f).ns = s.ns := rfl

@[simp] theorem State.modEntry_quality (s : State) (n : StreamNo) (f : StreamEntry → StreamEntry) : (s.modEntry n f).quality = s.quality := rfl

@[simp] theorem State.modRun_port (s : State) (n : StreamNo) (f : StreamRun → StreamRun) (q : Port) : (s.modRun n f).port q = s.port q := rfl

@[simp] theorem State.modRun_cable (s : State) (n : StreamNo) (f : StreamRun → StreamRun) (d : Cable) : (s.modRun n f).cable d = s.cable d := rfl

@[simp] theorem State.modRun_ns (s : State) (n : StreamNo) (f : StreamRun → StreamRun) : (s.modRun n f).ns = s.ns := rfl

@[simp] theorem State.modRun_quality (s : State) (n : StreamNo) (f : StreamRun → StreamRun) : (s.modRun n f).quality = s.quality := rfl

@[simp] theorem State.modTime_port (s : State) (f : RackTime → RackTime) (q : Port) : (s.modTime f).port q = s.port q := rfl

@[simp] theorem State.modTime_cable (s : State) (f : RackTime → RackTime) (d : Cable) : (s.modTime f).cable d = s.cable d := rfl

@[simp] theorem State.modSelector_port (s : State) (f : Selector → Selector) (q : Port) : (s.modSelector f).port q = s.port q := rfl

@[simp] theorem State.modSelector_cable (s : State) (f : Selector → Selector) (d : Cable) : (s.modSelector f).cable d = s.cable d := rfl

@[simp] theorem State.modSelector_ns (s : State) (f : Selector → Selector) : (s.modSelector f).ns = s.ns := rfl

@[simp] theorem State.modSelector_quality (s : State) (f : Selector → Selector) : (s.modSelector f).quality = s.quality := rfl

@[simp] theorem State.modTrig_port (s : State) (f : TriggerUnit → TriggerUnit) (q : Port) : (s.modTrig f).port q = s.port q := rfl

@[simp] theorem State.modTrig_cable (s : State) (f : TriggerUnit → TriggerUnit) (d : Cable) : (s.modTrig f).cable d = s.cable d := rfl

@[simp] theorem State.modTrig_ns (s : State) (f : TriggerUnit → TriggerUnit) : (s.modTrig f).ns = s.ns := rfl

@[simp] theorem State.modTrig_quality (s : State) (f : TriggerUnit → TriggerUnit) : (s.modTrig f).quality = s.quality := rfl

@[simp] theorem State.modCadence_port (s : State) (k : Fin 2) (f : CadenceUnit → CadenceUnit) (q : Port) : (s.modCadence k f).port q = s.port q := rfl

@[simp] theorem State.modCadence_cable (s : State) (k : Fin 2) (f : CadenceUnit → CadenceUnit) (d : Cable) : (s.modCadence k f).cable d = s.cable d := rfl

@[simp] theorem State.modCadence_ns (s : State) (k : Fin 2) (f : CadenceUnit → CadenceUnit) : (s.modCadence k f).ns = s.ns := rfl

@[simp] theorem State.modCadence_quality (s : State) (k : Fin 2) (f : CadenceUnit → CadenceUnit) : (s.modCadence k f).quality = s.quality := rfl

@[simp] theorem State.modCtl_port (s : State) (f : ControlUnit → ControlUnit) (q : Port) : (s.modCtl f).port q = s.port q := rfl

@[simp] theorem State.modCtl_cable (s : State) (f : ControlUnit → ControlUnit) (d : Cable) : (s.modCtl f).cable d = s.cable d := rfl

@[simp] theorem State.modCtl_ns (s : State) (f : ControlUnit → ControlUnit) : (s.modCtl f).ns = s.ns := rfl

@[simp] theorem State.modCtl_quality (s : State) (f : ControlUnit → ControlUnit) : (s.modCtl f).quality = s.quality := rfl

@[simp] theorem State.modNotices_port (s : State) (f : NoticeUnit → NoticeUnit) (q : Port) : (s.modNotices f).port q = s.port q := rfl

@[simp] theorem State.modNotices_cable (s : State) (f : NoticeUnit → NoticeUnit) (d : Cable) : (s.modNotices f).cable d = s.cable d := rfl

@[simp] theorem State.modNotices_ns (s : State) (f : NoticeUnit → NoticeUnit) : (s.modNotices f).ns = s.ns := rfl

@[simp] theorem State.modNotices_quality (s : State) (f : NoticeUnit → NoticeUnit) : (s.modNotices f).quality = s.quality := rfl

@[simp] theorem State.countBy_port (s : State) (i : CounterId) (k : Nat) (q : Port) : (s.countBy i k).port q = s.port q := rfl

@[simp] theorem State.countBy_cable (s : State) (i : CounterId) (k : Nat) (d : Cable) : (s.countBy i k).cable d = s.cable d := rfl

@[simp] theorem State.countBy_ns (s : State) (i : CounterId) (k : Nat) : (s.countBy i k).ns = s.ns := rfl

@[simp] theorem State.countBy_quality (s : State) (i : CounterId) (k : Nat) : (s.countBy i k).quality = s.quality := rfl

@[simp] theorem State.count_port (s : State) (i : CounterId) (q : Port) : (s.count i).port q = s.port q := rfl

@[simp] theorem State.count_cable (s : State) (i : CounterId) (d : Cable) : (s.count i).cable d = s.cable d := rfl

@[simp] theorem State.count_ns (s : State) (i : CounterId) : (s.count i).ns = s.ns := rfl

@[simp] theorem State.count_quality (s : State) (i : CounterId) : (s.count i).quality = s.quality := rfl

@[simp] theorem State.raise_port (s : State) (x : Flag) (q : Port) : (s.raise x).port q = s.port q := rfl

@[simp] theorem State.raise_cable (s : State) (x : Flag) (d : Cable) : (s.raise x).cable d = s.cable d := rfl

@[simp] theorem State.raise_ns (s : State) (x : Flag) : (s.raise x).ns = s.ns := rfl

@[simp] theorem State.raise_quality (s : State) (x : Flag) : (s.raise x).quality = s.quality := rfl

theorem State.setRx_port (s : State) (p : Port) (x : RxPhase) (q : Port) :
    (s.setRx p x).port q = if q = p then { s.port p with rx := x } else s.port q :=
  PerPort.get_set ..

@[simp] theorem State.setRx_port_self (s : State) (p : Port) (x : RxPhase) : (s.setRx p x).port p = { s.port p with rx := x } :=
  PerPort.get_set_self ..

@[simp] theorem State.setRx_cable (s : State) (p : Port) (x : RxPhase) (d : Cable) : (s.setRx p x).cable d = s.cable d := rfl

@[simp] theorem State.setRx_ns (s : State) (p : Port) (x : RxPhase) : (s.setRx p x).ns = s.ns := rfl

@[simp] theorem State.setRx_quality (s : State) (p : Port) (x : RxPhase) : (s.setRx p x).quality = s.quality := rfl

end Sys2Proof.Machine
end

