-- ==== Sys2Proof/Laws/Ops.lean ====
section
/-! SUPPORT. What each shared operation can do, said once: choices of the arbiter, offers to queues, replies, notices and the
conclusion of an event are quiet (`State.Quiet`): they change at most what the ports send, and counters. -/

namespace Sys2Proof.Machine

/-! ### The relation `State.Quiet` -/

theorem CableUnit.Quiet.refl (u : CableUnit) : u.Quiet u := ⟨rfl, rfl⟩

theorem CableUnit.Quiet.trans {u v w : CableUnit} (a : u.Quiet v) (b : v.Quiet w) : u.Quiet w := by
  refine ⟨?_, b.loop.trans a.loop⟩
  have := b.rest; rw [a.rest] at this; exact this

theorem CableUnit.Quiet.state {u v : CableUnit} (h : u.Quiet v) : v.state = u.state := by rw [h.rest]

theorem CableUnit.Quiet.neighbour {u v : CableUnit} (h : u.Quiet v) : v.neighbour = u.neighbour := by rw [h.rest]

theorem CableUnit.Quiet.eligible {u v : CableUnit} (h : u.Quiet v) : v.eligible = u.eligible := by rw [h.rest]

theorem CableUnit.Quiet.drain {u v : CableUnit} (h : u.Quiet v) : v.drain = u.drain := by rw [h.rest]

theorem CableUnit.Quiet.budget {u v : CableUnit} (h : u.Quiet v) : v.budget = u.budget := by rw [h.rest]

theorem State.Quiet.refl (s : State) : s.Quiet s where
  straps := rfl
  frame := rfl
  fActive := rfl
  pool := rfl
  streams := rfl
  selector := rfl
  trig := rfl
  cadence := rfl
  ctl := rfl
  notices := rfl
  now := rfl
  stampNs := rfl
  stamps := rfl
  pending := rfl
  time := rfl
  cable _ := CableUnit.Quiet.refl _
  aligned _ := rfl
  rx _ := rfl

theorem State.Quiet.trans {s t u : State} (a : s.Quiet t) (b : t.Quiet u) : s.Quiet u where
  straps := b.straps.trans a.straps
  frame := b.frame.trans a.frame
  fActive := b.fActive.trans a.fActive
  pool := b.pool.trans a.pool
  streams := b.streams.trans a.streams
  selector := b.selector.trans a.selector
  trig := b.trig.trans a.trig
  cadence := b.cadence.trans a.cadence
  ctl := b.ctl.trans a.ctl
  notices := b.notices.trans a.notices
  now := b.now.trans a.now
  stampNs := b.stampNs.trans a.stampNs
  stamps := b.stamps.trans a.stamps
  pending := b.pending.trans a.pending
  time := by have := b.time; rw [a.time] at this; exact this
  cable c := (a.cable c).trans (b.cable c)
  aligned p := (b.aligned p).trans (a.aligned p)
  rx p := (b.rx p).trans (a.rx p)

/-- Either branch of a choice is quiet. -/
theorem State.Quiet.ite {s a b : State} {p : Prop} [Decidable p] (ha : s.Quiet a) (hb : s.Quiet b) :
    s.Quiet (if p then a else b) := by
  split
  · exact ha
  · exact hb

/-! ### The operations that are quiet -/

theorem State.countBy_quiet (s : State) (i : CounterId) (k : Nat) : s.Quiet (s.countBy i k) :=
  { State.Quiet.refl s with }

theorem State.count_quiet (s : State) (i : CounterId) : s.Quiet (s.count i) := s.countBy_quiet i 1

/-- A change of a port unit that keeps its receiver is quiet. -/
theorem State.modPort_quiet (s : State) (p : Port) (f : PortUnit → PortUnit)
    (h : (f (s.port p)).aligned = (s.port p).aligned ∧ (f (s.port p)).rx = (s.port p).rx) : s.Quiet (s.modPort p f) :=
  { State.Quiet.refl s with
    aligned := fun q => by rw [State.modPort_port]; split <;> simp_all
    rx := fun q => by rw [State.modPort_port]; split <;> simp_all }

/-- A quiet change of a cable-port unit. -/
theorem State.modCable_quiet (s : State) (c : Cable) (f : CableUnit → CableUnit) (h : (s.cable c).Quiet (f (s.cable c))) :
    s.Quiet (s.modCable c f) :=
  { State.Quiet.refl s with
    cable := fun d => by
      rw [State.modCable_cable]
      split
      · next e => subst e; exact h
      · exact CableUnit.Quiet.refl _ }

/-- A change of the outstanding query. -/
theorem State.modTime_quiet (s : State) (f : RackTime → RackTime)
    (h : f s.time = { s.time with outstanding := (f s.time).outstanding }) : s.Quiet (s.modTime f) :=
  { State.Quiet.refl s with time := h }

theorem RackTime.reportSent_eq (t : RackTime) (p : Port) (n : BitVec 8) (x : Stamp) :
    t.reportSent p n x = { t with outstanding := (t.reportSent p n x).outstanding } := by
  unfold RackTime.reportSent
  split
  · split <;> rfl
  · rfl

/-- The report of a transmit stamp is quiet (R17). -/
theorem State.reportStamp_quiet (s : State) (p : Port) (m : LinkMsg) (x : Stamp) : s.Quiet (s.reportStamp p m x) := by
  unfold State.reportStamp
  split
  · exact s.modTime_quiet _ (RackTime.reportSent_eq ..)
  · exact s.modCable_quiet _ _ ⟨rfl, by simp⟩
  · exact .refl s

/-- The report of a transmit stamp changes no port (R17). -/
@[simp] theorem State.reportStamp_port (s : State) (p : Port) (m : LinkMsg) (x : Stamp) (q : Port) :
    (s.reportStamp p m x).port q = s.port q := by
  unfold State.reportStamp
  split <;> rfl

/-- With no transmission in progress there is no first word. -/
theorem State.firstWord_of_idle {s : State} {p : Port} (h : (s.port p).tx = none) : s.firstWord p = s := by
  simp [State.firstWord, h]

/-- A first word passes once. -/
theorem State.firstWord_of_stamped {s : State} {p : Port} {x : Tx} (h : (s.port p).tx = some x) (hx : x.stamp ≠ none) :
    s.firstWord p = s := by
  simp [State.firstWord, h, hx]

/-- What the passing of a first word does: the transmission has its stamp, nothing is owed, and the stamp is reported. -/
theorem State.firstWord_of_unstamped {s : State} {p : Port} {x : Tx} (h : (s.port p).tx = some x) (hx : x.stamp = none) :
    s.firstWord p = (s.modPort p fun u =>
      { u with tx := some { x with msg := stampedMsg x.msg s.stampNs, stamp := some s.stampNs }, owed := [] }).reportStamp p x.msg
        s.stampNs := by
  simp [State.firstWord, h, hx]

/-- The passing of a first word is quiet (R17). -/
theorem State.firstWord_quiet (s : State) (p : Port) : s.Quiet (s.firstWord p) := by
  unfold State.firstWord
  split
  · exact .ite ((s.modPort_quiet p _ ⟨rfl, rfl⟩).trans (State.reportStamp_quiet ..)) (.refl s)
  · exact .refl s

theorem State.firstWordDue_quiet (s : State) (p : Port) : s.Quiet (s.firstWordDue p) := by
  unfold State.firstWordDue
  split
  · exact .ite (s.firstWord_quiet p) (.refl s)
  · exact .refl s

/-- The first words of one tick are quiet (R17). -/
theorem State.firstWords_quiet (s : State) : s.Quiet s.firstWords := by
  have (l : List Port) (s : State) : s.Quiet (l.foldl State.firstWordDue s) := by
    induction l generalizing s with
    | nil => exact .refl s
    | cons p l ih => exact (s.firstWordDue_quiet p).trans (ih _)
  exact this _ _

/-- The start of a transmission is quiet (R60). -/
theorem State.transmit_quiet (s : State) (p : Port) (m : LinkMsg) (src : TxSource) : s.Quiet (s.transmit p m src) :=
  (s.modPort_quiet p _ ⟨rfl, rfl⟩).trans (State.firstWordDue_quiet ..)

/-- The end of a transmission is quiet (R61). -/
theorem State.endTx_quiet (s : State) (p : Port) : s.Quiet (s.endTx p) :=
  (s.firstWord_quiet p).trans (State.modPort_quiet _ p _ ⟨rfl, rfl⟩)

/-- With nothing in transmission a cut does nothing. -/
theorem State.cut_none (s : State) (p : Port) (h : (s.port p).tx = none) : s.cut p = s := by simp [State.cut, h]

/-- A cut takes the transmission off its port and releases its reference; it counts a queued message whose check word has not
left (R62, R3). -/
theorem State.cut_some (s : State) (p : Port) (t : Tx) (h : (s.port p).tx = some t) :
    ∀ u, u = (s.modPort p fun x => { x with tx := none, owed := t.afterCut x.owed s.now }).releaseTx t.source →
      s.cut p = if t.source.queued && !t.sent s.now then u.count (.traffic p .cut) else u := by
  rintro u rfl
  have cut : s.modPort p (·.cutTx s.now) = s.modPort p fun x => { x with tx := none, owed := t.afterCut x.owed s.now } := by
    have h : (s.ports.get p).tx = some t := h
    simp [State.modPort, PortUnit.cutTx, h]
  simp [State.cut, h, cut]

theorem State.transmitSlot_quiet (s : State) (p : Port) (i : Fin 96) : s.Quiet (s.transmitSlot p i) := by
  unfold State.transmitSlot
  split
  · exact s.transmit_quiet ..
  · exact .refl s

theorem State.modQueues_quiet (s : State) (p : Port) (f : Queues → Queues) : s.Quiet (s.modQueues p f) :=
  s.modPort_quiet p _ ⟨rfl, rfl⟩

/-- What the arbiter chooses starts quietly (R60). -/
theorem State.begin_quiet (s : State) (p : Port) (ch : Choice) : s.Quiet (s.begin p ch) := by
  cases ch with
  | returned n =>
    cases p with
    | cable c => exact (s.modCable_quiet c _ ⟨rfl, rfl⟩).trans (State.transmit_quiet ..)
    | f => exact .refl s
  | ownEcho n =>
    cases p with
    | cable c =>
      exact (s.modCable_quiet c _ ⟨rfl, rfl⟩).trans (State.transmit_quiet ..)
    | f => exact .refl s
  | hello =>
    cases p with
    | cable c => exact (s.modCable_quiet c _ ⟨rfl, rfl⟩).trans (State.transmit_quiet ..)
    | f => exact .refl s
  | timing e =>
    cases e with
    | query n => exact (s.modQueues_quiet p _).trans (State.transmit_quiet ..)
    | answer n t2 => exact (s.modQueues_quiet p _).trans (State.transmit_quiet ..)
  | trigger m => exact (s.modQueues_quiet p _).trans (State.transmit_quiet ..)
  | control e => exact (s.modQueues_quiet p _).trans (State.transmit_quiet ..)
  | urgent i => exact (s.modPort_quiet p _ ⟨rfl, rfl⟩).trans (State.transmitSlot_quiet ..)
  | bulk i => exact (s.modPort_quiet p _ ⟨rfl, rfl⟩).trans (State.transmitSlot_quiet ..)

/-- A choice of the arbiter is quiet (R58). -/
theorem State.arbitrate_quiet (s : State) (p : Port) : s.Quiet (s.arbitrate p) := by
  unfold State.arbitrate
  split
  · split
    · exact s.begin_quiet p _
    · exact .refl s
  · exact .refl s

/-- An offer to a timing queue is quiet. -/
theorem State.offerTiming_quiet (s : State) (p : Port) (e : TimingEntry) : s.Quiet (s.offerTiming p e).2 := by
  unfold State.offerTiming
  split
  · split
    · exact (s.modQueues_quiet p _).trans (State.arbitrate_quiet ..)
    · exact s.count_quiet _
  · exact .refl s

/-- An offer to a trigger queue is quiet. -/
theorem State.offerTrigger_quiet (s : State) (p : Port) (m : TriggerMsg) : s.Quiet (s.offerTrigger p m).2 := by
  unfold State.offerTrigger
  split
  · split
    · exact (s.modQueues_quiet p _).trans (State.arbitrate_quiet ..)
    · exact s.count_quiet _
  · exact .refl s

/-- An offer to a control queue is quiet. -/
theorem State.offerControl_quiet (s : State) (p : Port) (e : ControlEntry) : s.Quiet (s.offerControl p e).2 := by
  unfold State.offerControl
  split
  · exact (s.modQueues_quiet p _).trans (State.arbitrate_quiet ..)
  · exact .refl s

/-- A reply is quiet. -/
theorem State.offerReply_quiet (s : State) (r : ReplyDue) (b : Bool) : s.Quiet (s.offerReply r b).2 := by
  have h := s.offerControl_quiet r.arrival ⟨.reply (s.formReply r), b⟩
  unfold State.offerReply
  split <;> rename_i e <;> rw [e] at h <;> exact h.trans (State.count_quiet ..)

theorem State.sendReply_quiet (s : State) (r : ReplyDue) : s.Quiet (s.sendReply r) := s.offerReply_quiet r false

/-- A run of replies is quiet. -/
theorem State.sendReplies_quiet (l : List ReplyDue) (s : State) : s.Quiet (l.foldl State.sendReply s) := by
  induction l generalizing s with
  | nil => exact .refl s
  | cons r l ih => exact (s.sendReply_quiet r).trans (ih _)

/-- A NOTICE is quiet. -/
theorem State.sendNotice_quiet (s : State) : s.Quiet s.sendNotice := by
  unfold State.sendNotice
  split
  · exact s.count_quiet _
  · rename_i p _
    have h := s.offerControl_quiet p ⟨.notice s.formNotice, false⟩
    split <;> rename_i e <;> rw [e] at h <;> exact h.trans (State.count_quiet ..)

theorem State.callHello_quiet (b : Bool) (s : State) (c : Cable) : s.Quiet (State.callHello b s c) :=
  State.Quiet.trans (.ite (s.modCable_quiet c _ ⟨rfl, rfl⟩) (.refl s)) (.ite (State.arbitrate_quiet ..) (.refl _))

/-- The calls for HELLOs at the end of an event are quiet (R122). -/
theorem State.callHellos_quiet (before s : State) : s.Quiet (State.callHellos before s) := by
  unfold State.callHellos
  generalize before.advertChanged s = b
  have (l : List Cable) (s : State) : s.Quiet (l.foldl (State.callHello b) s) := by
    induction l generalizing s with
    | nil => exact .refl s
    | cons c l ih => exact (State.callHello_quiet b s c).trans (ih _)
  exact this _ _

theorem State.startParkingHello_quiet (s : State) (c : Cable) : s.Quiet (s.startParkingHello c) :=
  s.transmit_quiet ..

/-- What an event's work is before the quiet part of its conclusion: the selector has evaluated, when it was called on. -/
def Work.evaluated (w : Work) : State := if w.evaluate then w.st.select else w.st

/-- The state of an event's work once the selector has evaluated and a parking HELLO has started. -/
def Work.parked (w : Work) : State :=
  match w.park with
  | some c => w.evaluated.startParkingHello c
  | none => w.evaluated

theorem Work.parked_quiet (w : Work) : w.evaluated.Quiet w.parked := by
  unfold Work.parked
  split
  · exact State.startParkingHello_quiet ..
  · exact .refl _

/-- The state of an event's work once its HELLOs are called for. -/
def Work.greeted (before : State) (w : Work) : State :=
  if w.announced then w.parked else State.callHellos before w.parked

theorem Work.greeted_quiet (before : State) (w : Work) : w.evaluated.Quiet (w.greeted before) :=
  w.parked_quiet.trans (.ite (.refl _) (State.callHellos_quiet ..))

/-- The conclusion of an event, in its order (R124, R40, R122, R184, R168). -/
theorem State.conclude_eq (before : State) (w : Work) : before.conclude w =
    w.due.foldl State.sendReply
      (if State.noticeDue before (w.greeted before) = true then (w.greeted before).sendNotice else w.greeted before) := rfl

/-- After the evaluation, the conclusion of an event is quiet. -/
theorem State.conclude_quiet (before : State) (w : Work) : w.evaluated.Quiet (before.conclude w) := by
  rw [State.conclude_eq]
  exact (w.greeted_quiet before).trans
    ((State.Quiet.ite (State.sendNotice_quiet _) (.refl _)).trans (State.sendReplies_quiet ..))

/-! ### The arbiter of a port with nothing to do -/

/-- The arbiter does nothing on a port that makes no choice, transmits already, or has nothing waiting. -/
theorem State.arbitrate_eq_self {s : State} {p : Port}
    (h : s.arbiterRuns p = true → (s.port p).tx = none → s.choice p = none) : s.arbitrate p = s := by
  unfold State.arbitrate
  split
  · next e => rw [h e.1 e.2]
  · rfl

/-- R58: with nothing waiting on an idle port, a choice changes nothing. -/
theorem State.BusyLaw.arbitrate {s : State} (h : s.BusyLaw) (p : Port) : s.arbitrate p = s :=
  State.arbitrate_eq_self (h p (Port.mem_all p))

/-- Calls for HELLOs do nothing in an event that changes nothing of what a HELLO says (R122). -/
theorem State.callHellos_eq_self {before s : State} (hb : s.BusyLaw) (h : before.advertChanged s = false) :
    State.callHellos before s = s := by
  have one (c : Cable) : State.callHello false s c = s := by
    unfold State.callHello
    have e : (if (false = true) ∧ (s.cable c).greets = true then s.modCable c fun u => { u with helloDue := true } else s) = s := by
      simp
    dsimp only
    rw [e]
    split
    · exact hb.arbitrate _
    · rfl
  have (l : List Cable) : l.foldl (State.callHello false) s = s := by
    induction l with
    | nil => rfl
    | cons c l ih => rw [List.foldl_cons, one c, ih]
  unfold State.callHellos
  rw [h]
  exact this _

/-- No notice is due when no flag is newly pending and enabled (R184). -/
theorem State.noticeDue_eq_false {before s : State} (h : s.notices.visible &&& ~~~before.notices.visible = 0#12) :
    State.noticeDue before s = false := by
  simp [State.noticeDue, h]

theorem State.noticeDue_same {before s : State} (h : s.notices = before.notices) : State.noticeDue before s = false :=
  State.noticeDue_eq_false (by rw [h]; exact BitVec.and_not_self _)

/-- An event that calls on no evaluation, changes nothing a HELLO says and raises no enabled flag anew ends with its replies
alone. -/
theorem State.conclude_plain {before : State} {w : Work} (hb : w.st.BusyLaw) (he : w.evaluate = false) (hp : w.park = none)
    (ha : before.advertChanged w.st = false) (hn : State.noticeDue before w.st = false) :
    before.conclude w = w.due.foldl State.sendReply w.st := by
  have e : w.greeted before = w.st := by
    simp [Work.greeted, Work.parked, Work.evaluated, he, hp, State.callHellos_eq_self hb ha]
  rw [State.conclude_eq, e, hn]
  rfl

/-! ### Taking a request -/

theorem ReqKind.ofCode?_code (k : ReqKind) : ReqKind.ofCode? k.code = some k := by cases k <;> decide

/-- The head request is taken by the row of its kind (R162). -/
theorem State.Heads.take {s : State} {k : ReqKind} {r : Request} {rest : List Request} (h : s.Heads k r rest) :
    s.takeRequest (some k) = some (r, s.popped rest) := by
  unfold State.takeRequest
  rw [h.running, h.head]
  simp [h.kind, ReqKind.ofCode?_code, State.popped]

/-- A request that passes tests 2 to 4 is not refused by the control unit (R162). -/
theorem State.Serves.refusal {s : State} {k : ReqKind} {r : Request} {rest : List Request} (h : s.Serves k r rest) :
    (s.popped rest).refusal? k r = none := by
  have a : (s.popped rest).authorityOk k r = true := h.authority
  have o : (s.popped rest).ownerOk k r = true := h.owner
  unfold State.refusal?
  simp [h.count, a, o]

/-- A request that passes tests 2 to 4 is carried out by its owning block, and the event concludes (R162). -/
theorem State.Serves.serve {s : State} {k : ReqKind} {r : Request} {rest : List Request} (h : s.Serves k r rest)
    (act : State → Request → Served) :
    s.serve k act = s.endsIn ((act (s.popped rest) r).work' r) := by
  unfold State.serve
  rw [h.take]
  simp [h.refusal]

end Sys2Proof.Machine
end

