-- ==== Sys2Proof/Laws/PerInstr.lean ====
section
/-! SUPPORT. A fact about every command as syntax, constructor by constructor: the message that a well-formed command hands on
travels in as many words as R8 says, between 2 and 68. -/

namespace Sys2Proof.Laws

/-- R8: the message a well-formed command hands on is sent in `msgLength` words, 2 to 68 of them. -/
def MessageLength.Statement (i : Instr) : Prop :=
  i.wellFormed = true → ∀ m, i.message? = some m →
    (Machine.wordsOf m).length = Machine.msgLength m ∧ 2 ≤ Machine.msgLength m ∧ Machine.msgLength m ≤ 68

/-- The run of words of a message is as long as R8 says. -/
theorem wordsOf_length (m : LinkMsg) : (Machine.wordsOf m).length = Machine.msgLength m := by
  cases m <;> simp [Machine.wordsOf, Machine.bodyWords, Machine.msgLength, Machine.timeWords]

/-- R8: a well-formed message is 2 to 68 words long. -/
theorem msgLength_bounds (m : LinkMsg) (h : m.wellFormed = true) : 2 ≤ Machine.msgLength m ∧ Machine.msgLength m ≤ 68 := by
  cases m <;> simp only [LinkMsg.wellFormed, decide_eq_true_eq] at h <;> simp only [Machine.msgLength] <;> omega

theorem MessageLength.pinReset (pins : PinLevels) : MessageLength.Statement (.pinReset pins) :=
  fun _ _ h => nomatch h

theorem MessageLength.hubRestart : MessageLength.Statement .hubRestart :=
  fun _ _ h => nomatch h

theorem MessageLength.restartTakesEffect : MessageLength.Statement .restartTakesEffect :=
  fun _ _ h => nomatch h

theorem MessageLength.detectEdge (c : Cable) (present : Bool) : MessageLength.Statement (.detectEdge c present) :=
  fun _ _ h => nomatch h

theorem MessageLength.fEntersActive : MessageLength.Statement .fEntersActive :=
  fun _ _ h => nomatch h

theorem MessageLength.fEntersDown : MessageLength.Statement .fEntersDown :=
  fun _ _ h => nomatch h

theorem MessageLength.receiverAligned (c : Cable) : MessageLength.Statement (.receiverAligned c) :=
  fun _ _ h => nomatch h

theorem MessageLength.lossOfAlignment (p : Port) : MessageLength.Statement (.lossOfAlignment p) :=
  fun _ _ h => nomatch h

theorem MessageLength.retrainingSeen (c : Cable) : MessageLength.Statement (.retrainingSeen c) :=
  fun _ _ h => nomatch h

theorem MessageLength.headingFault (p : Port) : MessageLength.Statement (.headingFault p) :=
  fun _ _ h => nomatch h

theorem MessageLength.checkFailure (p : Port) (cause : CheckCause) : MessageLength.Statement (.checkFailure p cause) :=
  fun _ _ h => nomatch h

theorem MessageLength.addressCodeFault (p : Port) : MessageLength.Statement (.addressCodeFault p) :=
  fun _ _ h => nomatch h

theorem MessageLength.abortedMessage (p : Port) : MessageLength.Statement (.abortedMessage p) :=
  fun _ _ h => nomatch h

theorem MessageLength.decayStep (c : Cable) : MessageLength.Statement (.decayStep c) :=
  fun _ _ h => nomatch h

theorem MessageLength.trainingAttemptTimeout (c : Cable) : MessageLength.Statement (.trainingAttemptTimeout c) :=
  fun _ _ h => nomatch h

theorem MessageLength.echoWaitExpiry (c : Cable) : MessageLength.Statement (.echoWaitExpiry c) :=
  fun _ _ h => nomatch h

theorem MessageLength.greetingWaitExpiry (c : Cable) : MessageLength.Statement (.greetingWaitExpiry c) :=
  fun _ _ h => nomatch h

theorem MessageLength.helloRepeat (c : Cable) : MessageLength.Statement (.helloRepeat c) :=
  fun _ _ h => nomatch h

theorem MessageLength.helloRefresh (c : Cable) : MessageLength.Statement (.helloRefresh c) :=
  fun _ _ h => nomatch h

theorem MessageLength.cleanRunTimerRunsOut (c : Cable) : MessageLength.Statement (.cleanRunTimerRunsOut c) :=
  fun _ _ h => nomatch h

theorem MessageLength.transmissionEnds (p : Port) : MessageLength.Statement (.transmissionEnds p) :=
  fun _ _ h => nomatch h

theorem MessageLength.parkingHelloEnds (c : Cable) : MessageLength.Statement (.parkingHelloEnds c) :=
  fun _ _ h => nomatch h

theorem MessageLength.sampleBlock (p : Port) (stamp : Ago) (m : SampleMsg) : MessageLength.Statement (.sampleBlock p stamp m) := by
  rintro h _ ⟨⟩
  exact ⟨wordsOf_length _, msgLength_bounds _ h⟩

theorem MessageLength.controlRequest (p : Port) (m : Received RequestMsg) : MessageLength.Statement (.controlRequest p m) := by
  rintro h _ ⟨⟩
  exact ⟨wordsOf_length _, msgLength_bounds _ h⟩

theorem MessageLength.controlReply (p : Port) (m : Received ReplyMsg) : MessageLength.Statement (.controlReply p m) := by
  rintro h _ ⟨⟩
  exact ⟨wordsOf_length _, msgLength_bounds _ h⟩

theorem MessageLength.notice (p : Port) (m : Received NoticeMsg) : MessageLength.Statement (.notice p m) := by
  rintro h _ ⟨⟩
  exact ⟨wordsOf_length _, msgLength_bounds _ h⟩

theorem MessageLength.triggerNotice (p : Port) (m : Received TriggerMsg) : MessageLength.Statement (.triggerNotice p m) := by
  rintro h _ ⟨⟩
  exact ⟨wordsOf_length _, msgLength_bounds _ h⟩

theorem MessageLength.delayQuery (p : Port) (stamp : Ago) (number : BitVec 8) : MessageLength.Statement (.delayQuery p stamp number) := by
  rintro h _ ⟨⟩
  exact ⟨wordsOf_length _, msgLength_bounds _ h⟩

theorem MessageLength.timeAnswer (p : Port) (stamp : Ago) (m : AnswerMsg) : MessageLength.Statement (.timeAnswer p stamp m) := by
  rintro h _ ⟨⟩
  exact ⟨wordsOf_length _, msgLength_bounds _ h⟩

theorem MessageLength.hello (p : Port) (m : Received HelloMsg) : MessageLength.Statement (.hello p m) := by
  rintro h _ ⟨⟩
  exact ⟨wordsOf_length _, msgLength_bounds _ h⟩

theorem MessageLength.echo (p : Port) (stamp : Ago) (m : EchoMsg) : MessageLength.Statement (.echo p stamp m) := by
  rintro h _ ⟨⟩
  exact ⟨wordsOf_length _, msgLength_bounds _ h⟩

theorem MessageLength.queryTimerExpiry : MessageLength.Statement .queryTimerExpiry :=
  fun _ _ h => nomatch h

theorem MessageLength.answerWaitEnds : MessageLength.Statement .answerWaitEnds :=
  fun _ _ h => nomatch h

theorem MessageLength.holdoverLimitReached : MessageLength.Statement .holdoverLimitReached :=
  fun _ _ h => nomatch h

theorem MessageLength.muteTimerRunsOut (c : Cable) : MessageLength.Statement (.muteTimerRunsOut c) :=
  fun _ _ h => nomatch h

theorem MessageLength.drainCloses (c : Cable) : MessageLength.Statement (.drainCloses c) :=
  fun _ _ h => nomatch h

theorem MessageLength.drainTimeout (c : Cable) : MessageLength.Statement (.drainTimeout c) :=
  fun _ _ h => nomatch h

theorem MessageLength.loopTestReturn (c : Cable) (stamp : Ago) (number : BitVec 8) : MessageLength.Statement (.loopTestReturn c stamp number) :=
  fun _ _ h => nomatch h

theorem MessageLength.loopTestTimeout (c : Cable) : MessageLength.Statement (.loopTestTimeout c) :=
  fun _ _ h => nomatch h

theorem MessageLength.inputEdge (i : Fin 4) (level : Bool) : MessageLength.Statement (.inputEdge i level) :=
  fun _ _ h => nomatch h

theorem MessageLength.firing : MessageLength.Statement .firing :=
  fun _ _ h => nomatch h

theorem MessageLength.pinCountRunsOut (i : Fin 4) : MessageLength.Statement (.pinCountRunsOut i) :=
  fun _ _ h => nomatch h

theorem MessageLength.cadenceEdgeTaken (k : Fin 2) : MessageLength.Statement (.cadenceEdgeTaken k) :=
  fun _ _ h => nomatch h

theorem MessageLength.cadencePulseEnds (k : Fin 2) : MessageLength.Statement (.cadencePulseEnds k) :=
  fun _ _ h => nomatch h

theorem MessageLength.unknownRequestKind : MessageLength.Statement .unknownRequestKind :=
  fun _ _ h => nomatch h

theorem MessageLength.readIdentity : MessageLength.Statement .readIdentity :=
  fun _ _ h => nomatch h

theorem MessageLength.setFrameNumber : MessageLength.Statement .setFrameNumber :=
  fun _ _ h => nomatch h

theorem MessageLength.readPort : MessageLength.Statement .readPort :=
  fun _ _ h => nomatch h

theorem MessageLength.setPort : MessageLength.Statement .setPort :=
  fun _ _ h => nomatch h

theorem MessageLength.drainPort : MessageLength.Statement .drainPort :=
  fun _ _ h => nomatch h

theorem MessageLength.restorePort : MessageLength.Statement .restorePort :=
  fun _ _ h => nomatch h

theorem MessageLength.loopTest : MessageLength.Statement .loopTest :=
  fun _ _ h => nomatch h

theorem MessageLength.writeStream : MessageLength.Statement .writeStream :=
  fun _ _ h => nomatch h

theorem MessageLength.readStream : MessageLength.Statement .readStream :=
  fun _ _ h => nomatch h

theorem MessageLength.clearStream : MessageLength.Statement .clearStream :=
  fun _ _ h => nomatch h

theorem MessageLength.stageRoute : MessageLength.Statement .stageRoute :=
  fun _ _ h => nomatch h

theorem MessageLength.writeFrameRoute : MessageLength.Statement .writeFrameRoute :=
  fun _ _ h => nomatch h

theorem MessageLength.readFrameRoute : MessageLength.Statement .readFrameRoute :=
  fun _ _ h => nomatch h

theorem MessageLength.writeTriggerMap : MessageLength.Statement .writeTriggerMap :=
  fun _ _ h => nomatch h

theorem MessageLength.readTriggerMap : MessageLength.Statement .readTriggerMap :=
  fun _ _ h => nomatch h

theorem MessageLength.setTriggerPin : MessageLength.Statement .setTriggerPin :=
  fun _ _ h => nomatch h

theorem MessageLength.setTriggerInput : MessageLength.Statement .setTriggerInput :=
  fun _ _ h => nomatch h

theorem MessageLength.originateTrigger : MessageLength.Statement .originateTrigger :=
  fun _ _ h => nomatch h

theorem MessageLength.setCadence : MessageLength.Statement .setCadence :=
  fun _ _ h => nomatch h

theorem MessageLength.readCadence : MessageLength.Statement .readCadence :=
  fun _ _ h => nomatch h

theorem MessageLength.setTiming : MessageLength.Statement .setTiming :=
  fun _ _ h => nomatch h

theorem MessageLength.readTiming : MessageLength.Statement .readTiming :=
  fun _ _ h => nomatch h

theorem MessageLength.setTime : MessageLength.Statement .setTime :=
  fun _ _ h => nomatch h

theorem MessageLength.setReport : MessageLength.Statement .setReport :=
  fun _ _ h => nomatch h

theorem MessageLength.readNotices : MessageLength.Statement .readNotices :=
  fun _ _ h => nomatch h

theorem MessageLength.clearNotices : MessageLength.Statement .clearNotices :=
  fun _ _ h => nomatch h

theorem MessageLength.readCounters : MessageLength.Statement .readCounters :=
  fun _ _ h => nomatch h

theorem MessageLength.clearCounters : MessageLength.Statement .clearCounters :=
  fun _ _ h => nomatch h

theorem MessageLength.huntEnds (p : Port) : MessageLength.Statement (.huntEnds p) :=
  fun _ _ h => nomatch h

end Sys2Proof.Laws
end

