-- ==== Sys2Proof/Laws/Requests.lean ====
section
/-! SUPPORT. How the taking of a request ends when the request changes nothing that the ports, the selector or the notice unit
read: with its reply alone. -/

namespace Sys2Proof.Machine

/-! ### What the laws of the ports and the advertised values read -/

/-- The ports, the cable-port units and F's state are all that R58's law reads. -/
theorem State.BusyLaw.congr {s t : State} (h : s.BusyLaw) (hp : t.ports = s.ports) (hc : t.cables = s.cables)
    (hf : t.fActive = s.fActive) : t.BusyLaw := by
  intro p hp' hr ht
  have port (q : Port) : t.port q = s.port q := by simp [State.port, hp]
  have cable (d : Cable) : t.cable d = s.cable d := by simp [State.cable, hc]
  have runs : t.arbiterRuns p = s.arbiterRuns p := by
    cases p <;> simp [State.arbiterRuns, State.drainClosed, cable, hf]
  have choice : t.choice p = s.choice p := by
    cases p <;> simp [State.choice, port, cable]
  rw [choice]
  exact h p hp' (runs ▸ hr) (port p ▸ ht)

/-- What a HELLO says has not changed when the frame number, the role, the timing state, the upstream port and the
neighbour entries have not (R120, R121). -/
theorem State.advertChanged_eq_false {s t : State} (hf : t.frame = s.frame) (hr : t.time.role = s.time.role)
    (hs : t.time.state = s.time.state) (hu : t.selector.upstream = s.selector.upstream)
    (hn : ∀ c, (t.cable c).neighbour = (s.cable c).neighbour) : s.advertChanged t = false := by
  have e : t.upstreamEntry = s.upstreamEntry := by simp [State.upstreamEntry, hu, hn]
  simp [State.advertChanged, State.rank, State.upstreamFrame, hf, hr, hs, e]

/-- A request carried out in the ordinary way, that changes nothing of what the ports, the selector and the notice unit read,
ends with its reply alone (R162, R166). -/
theorem State.Serves.ends {s s' : State} {k : ReqKind} {r : Request} {rest : List Request} (h : s.Serves k r rest)
    (hb : s'.BusyLaw) {act : State → Request → Served} {a : Answer} {results : List Word}
    (he : act (s.popped rest) r = ⟨Work.of s', some (a, results)⟩)
    (ha : s.advertChanged s' = false) (hn : State.noticeDue s s' = false) :
    s.serve k act = .next (s'.sendReply (r.reply a results)) := by
  rw [h.serve, he]
  unfold State.endsIn
  rw [State.conclude_plain (w := (⟨Work.of s', some (a, results)⟩ : Served).work' r)] <;>
    first | rfl | exact hb | exact ha | exact hn

/-- The same, when the request changes neither ports, nor notices, nor what a HELLO says. -/
theorem State.Serves.ends_apart {s s' : State} {k : ReqKind} {r : Request} {rest : List Request} (h : s.Serves k r rest)
    (hb : s.BusyLaw) {act : State → Request → Served} {a : Answer} {results : List Word}
    (he : act (s.popped rest) r = ⟨Work.of s', some (a, results)⟩)
    (hp : s'.ports = s.ports) (hc : s'.cables = s.cables) (hF : s'.fActive = s.fActive) (hf : s'.frame = s.frame)
    (hr : s'.time.role = s.time.role) (hs : s'.time.state = s.time.state) (hu : s'.selector = s.selector)
    (hn : s'.notices = s.notices) :
    s.serve k act = .next (s'.sendReply (r.reply a results)) :=
  h.ends (hb.congr hp hc hF) he
    (State.advertChanged_eq_false hf hr hs (by rw [hu]) fun c => by simp [State.cable, hc])
    (State.noticeDue_same hn)

end Sys2Proof.Machine
end

