-- ==== Sys2Proof/Tests/Slice0.lean ====
section
/-! SUPPORT. Tests: the well-formedness smoke, worked figures of the spec, and for every obligation with hypotheses a state that
meets them. Expected values are the spec's figures or calculated by hand from its rules. -/

namespace Sys2Proof.Tests

open Sys2Proof.Machine

-- One test after another: elaborated side by side, their threads' stacks pass the check's memory limit.
set_option Elab.async false

/-! ### States to test on -/

/-- Pin levels: frame number and role as given, admit-on-insert on, every cable and the frame endpoint present. -/
def pinsOf (fn : BitVec 5) (src : Bool) : PinLevels :=
  ⟨fn, src, true, ⟨true, true, true, true⟩, true, Vector.replicate 4 false⟩

/-- Frame 4 after pin reset, in FOLLOW: every cable port in TRAINING, F ACTIVE. -/
def fresh : State := State.atPinReset (pinsOf 4#5 false) []

/-- The same hub with no frame number. -/
def nameless : State := State.atPinReset (pinsOf 31#5 false) []

/-- The same hub as SOURCE. -/
def source : State := State.atPinReset (pinsOf 4#5 true) []

/-- An assigned hub's neighbour: frame 9 at rank 1. -/
def near : Neighbour := ⟨9, 1#4, none, .source⟩

/-- `s` with cable port `c` in state `x`, as a port there is. -/
def withPort (s : State) (c : Cable) (x : PortState) : State :=
  (s.modCable c fun u =>
    { u with
      state := x
      attemptEnds := none
      neighbour := if x = .active ∨ x = .draining then some near else none
      lastActive := some 0
      drain := if x = .draining then some ⟨⟨.f, 3, 5#4⟩, some 1250000, 0, false⟩ else none }).modPort (.cable c) fun u =>
    { u with aligned := true, rx := .ready }

/-- Frame 4 with C0 and C1 ACTIVE. -/
def linked : State := withPort (withPort fresh .c0 .active) .c1 .active

/-- `s` with F's receiver ready to start a message. -/
def heard (s : State) : State := s.modPort .f fun u => { u with rx := .ready }

/-- A request on F to this hub. -/
def ask (k : ReqKind) (operands : List Word) : Request := ⟨.f, ⟨.neighbour, 3, 5#4, 1#4, k.code, operands⟩⟩

/-- `s` with one request waiting. -/
def asked (s : State) (r : Request) : State := s.modCtl fun x => { x with queue := [r] }

/-- `s` with a message in transmission on `p`: its first word passed at tick 0, its last leaves at tick 100. -/
def sends (s : State) (p : Port) (m : LinkMsg) (src : TxSource) : State :=
  s.modPort p fun u => { u with tx := some ⟨m, src, 0, 100, some 0#48⟩ }

/-- A stream entry: C0 to C1 and F, the copy on C1 protected by C2. -/
def entry : StreamEntry := ⟨true, 3, .cable .c0, ⟨0b10010#5, some (.cable .c1), some (.cable .c2)⟩, 2, 4, .urgent, .carry, 0, none, 0⟩

/-- The linked hub with stream 7 written. -/
def streaming : State := { linked with streams := linked.streams.set 7 ⟨entry, StreamRun.initial false⟩ }

/-- A block of stream 7. -/
def block : SampleMsg := ⟨7, 2#2, 5#8, 0#48, [1#32, 2#32]⟩

/-- The linked hub following the neighbour on C0, with a query outstanding whose transmit stamp is 1000. -/
def following : State :=
  (linked.modTime fun t => { t with
    state := .acquiring
    outstanding := some ⟨0#8, .c0, some 1000#48, 250000⟩ }).modSelector fun x => { x with upstream := some .c0 }

/-- What a command leads to. -/
def after (i : Instr) (s : State) : State :=
  match exec i s with
  | .next t => t
  | _ => s

/-! ### Well-formedness -/

theorem test_sample_of_no_samples_refused : (LinkMsg.sample ⟨0, 0#2, 0#8, 0#48, []⟩).wellFormed = false := by decide

theorem test_sample_of_65_samples_refused :
    (LinkMsg.sample ⟨0, 0#2, 0#8, 0#48, List.replicate 65 0#32⟩).wellFormed = false := by decide

theorem test_request_of_13_operands_refused :
    (Instr.controlRequest .f ⟨0, ⟨.neighbour, 0, 0#4, 0#4, 0#8, List.replicate 13 0#32⟩⟩).wellFormed = false := by decide

theorem test_reply_of_17_results_refused :
    (LinkMsg.reply ⟨.neighbour, 0, 0#4, 0#4, 0#8, 0#4, List.replicate 17 0#32⟩).wellFormed = false := by decide

theorem test_longest_messages_well_formed :
    (LinkMsg.sample ⟨0, 0#2, 0#8, 0#48, List.replicate 64 0#32⟩).wellFormed = true ∧
      (LinkMsg.request ⟨.neighbour, 0, 0#4, 0#4, 0#8, List.replicate 12 0#32⟩).wellFormed = true ∧
      (LinkMsg.reply ⟨.neighbour, 0, 0#4, 0#4, 0#8, 0#4, List.replicate 16 0#32⟩).wellFormed = true := by decide

/-! ### Decoding -/

theorem test_no_word_spells_a_command : decodeTableWord 0 0 = none := rfl

theorem test_every_request_kind_reads_back : ∀ k ∈ ReqKind.all, ReqKind.ofCode? k.code = some k := by decide

/-! ### Frame codes (R5, R6) -/

/-- R5: the code words are the 35 words of seven bits with exactly three set, in ascending order. -/
theorem test_code_words : codeWords =
    ((List.range 128).map (BitVec.ofNat 7)).filter fun c => ((List.range 7).filter c.getLsbD).length == 3 := by
  decide +kernel

theorem test_spare_and_light_words_are_faults :
    frameOfCode? 0b1101000#7 = none ∧ destOfCode? 0b1110000#7 = none ∧ frameOfCode? 0b0000011#7 = none ∧
      frameOfCode? (destCode .neighbour) = none ∧ destOfCode? (destCode .neighbour) = some .neighbour ∧
      frameOfCode? 0b0000111#7 = some 0 ∧ frameOfCode? 0b1100010#7 = some 31 := by decide +kernel

/-! ### Receiving (R7, R10 to R13) -/

/-- A message sent as R19 lays it out is received whole. -/
theorem test_hello_is_received :
    receiveWords (wordsOf (.hello ⟨4, some 9, 2#4, .follow, false⟩)) false =
      .good (.hello ⟨4, some 9, 2#4, .follow, false⟩) := by decide +kernel

/-- R19: word 0 of a DELAY QUERY with number 0x2A is its heading 41 and the number. -/
theorem test_query_word_zero : (wordsOf (.query 0x2A#8)).head? = some 0x4100002A#32 := by decide +kernel

/-- One flipped bit of the body fails the check word. -/
theorem test_flipped_bit_fails :
    receiveWords ((wordsOf (.query 0x2A#8)).set 0 0x4100002B#32) false = .checkFailure .checkWord := by decide +kernel

/-- R11: the heading is tested before anything else. -/
theorem test_bad_heading : receiveWords [0x13000000#32, 0#32, 0#32] true = .headingFault := by decide +kernel

/-- R12: a sample count of 0 has no length; R15: an ABORT ends a short message; R10: another control word cuts it short. -/
theorem test_short_messages :
    receiveWords [0x11000000#32] false = .checkFailure .countField ∧
      receiveWords [0x11000002#32, 0#32] true = .aborted ∧
      receiveWords [0x11000002#32, 0#32] false = .checkFailure .cutShort := by decide +kernel

/-- R14: a message whose check word failed has no second receive fault; R10, R16: one that passed is handed on, and its overrun
counted. R15: after an ABORT no message may start. -/
theorem test_commands_of_a_run :
    commandsOf .f 0 (((wordsOf (.query 5#8)).set 0 0x41000004#32) ++ [0#32]) false =
        [.checkFailure .f .checkWord, .huntEnds .f] ∧
      commandsOf .f 0 (wordsOf (.query 5#8) ++ [0#32]) false =
        [.delayQuery .f 0 5#8, .checkFailure .f .overrun, .huntEnds .f] ∧
      commandsOf .f 0 [0x11000002#32, 0#32] true = [.abortedMessage .f] := by decide +kernel

/-! ### Figures of the spec -/

/-- R110: with the defaults P is θ/4 and the integral term θ/32: θ = 1,248 from C = I = 300 gives I = 339 and C = 651. -/
theorem test_slew_with_defaults :
    let t := { (RackTime.atReset false) with integrator := 300, correction := 300 }.slew 1248
    t.integrator = 339 ∧ t.correction = 651 := by decide +kernel

/-- R110: a negative exponent rounds toward −∞. -/
theorem test_shift_rounds_down : mulPow2 (-1) (-2) = -1 ∧ mulPow2 5 1 = 10 := by decide

/-- R94: C saturates at the end of its range. -/
theorem test_clamp : clampRate 30000 = 26843 ∧ clampRate (-30000) = -26843 := by decide

/-- R151: with P = 1,000,000, φ = 250,000 and t = 7,400,120 the next edge is 8,250,000. -/
theorem test_next_edge :
    (CadenceSettings.mk .continuous 1000000 250000 8 false).nextAfter 7400120 = 8250000 ∧
      (CadenceSettings.mk .continuous 1000000 250000 8 false).nextAfter (2 ^ 48 - 1) = 250000 := by decide +kernel

/-- R141: the match figures of base and span. -/
theorem test_map_bases :
    [(13, 1), (13, 2), (13, 4), (6, 8), (30, 16), (30, 32)].map (fun x => (MapEntry.mk true 0 x.1 x.2 none).alignedBase) =
      [13, 12, 12, 0, 16, 0] := by decide

/-- R148: a width is rounded up to a multiple of 8 after clamping. -/
theorem test_pin_width : [0#32, 9#32, 600000#32].map pinWidth = [8, 16, 524280] := by decide +kernel

/-- R81: the sequence check. -/
theorem test_sequence_window :
    sequenceGap none 9#8 = some 0 ∧ sequenceGap (some 250#8) 121#8 = some 127 ∧ sequenceGap (some 250#8) 122#8 = none := by
  decide

/-- R68: the ingress port, an alternate in the output set and an alternate without a protected port are refused. -/
theorem test_route_constraints :
    entry.route.legal (.cable .c0) = true ∧ entry.route.legal .f = false ∧
      (StreamRoute.mk 0b10010#5 none (some (.cable .c2))).legal (.cable .c0) = false ∧
      (StreamRoute.mk 0b10010#5 (some .f) (some (.cable .c1))).legal (.cable .c0) = false ∧
      (StreamRoute.mk 0#5 none none).legal (.cable .c0) = false := by decide

/-- R93: one tick adds 8 ns at the nominal rate. -/
theorem test_tick : fresh.tick.ns = 8#48 ∧ fresh.tick.now = 1 := by decide +kernel

/-- R144, R148: an inactive ACTIVE-LOW pin is high. -/
theorem test_pin_levels : (TriggerPin.mk .activeLow 8 none).high = true ∧ (TriggerPin.mk .activeHigh 8 none).high = false := by
  decide

/-! ### Worked sequences of the spec -/

/-- The worked exchange of Rack Time: LOCKED, history mean 412, I = 300; the answer gives θ = 1,248, I = 339, C = 651, lock run 1. -/
theorem test_worked_exchange :
    let s := following.modTime fun t => { t with
      state := .locked
      integrator := 300
      history := [410, 414, 408, 416, 412, 410, 414, 412]
      outstanding := some ⟨0#8, .c0, some 1000000000#48, 250000⟩ }
    let t := s.takeAnswer (.cable .c0) 1000002324#48 ⟨2#2, 3#4, 0#8, 1000001660#48, 1000003160#48⟩
    t.time.integrator = 339 ∧ t.time.correction = 651 ∧ t.time.lastOffset = some 1248 ∧ t.time.lockRun = 1 ∧
      t.time.history = [414, 408, 416, 412, 410, 414, 412, 412] := by decide +kernel

/-- Bulk held back and let through: with the count at 7 a waiting bulk entry goes before an urgent one, and the count returns to 0. -/
theorem test_bulk_let_through :
    let q : Queues := { Queues.empty with urgent := [1], bulk := [2] }
    sampleChoice q 6 = some (.urgent 1) ∧ sampleChoice q 7 = some (.bulk 2) := by decide

/-- Two good returns take a port from TRAINING to GREETING, and a HELLO is then in transmission. -/
theorem test_second_good_return :
    let s := (withPort fresh .c0 .training).modCable .c0 fun u => { u with goodRun := 1, outstanding := some ⟨7#8, 12500⟩ }
    let t := after (.echo (.cable .c0) 0 ⟨true, 7#8⟩) s
    (t.cable .c0).state = .greeting ∧ (t.port (.cable .c0)).tx.map (·.msg) = some (.hello (t.helloMsg false)) := by
  decide +kernel

/-- R33: a suspect port that faults less than 1 s after its last entry to ACTIVE is quarantined. -/
theorem test_fault_quarantines :
    let s := linked.modCable .c0 fun u => { u with suspect := true }
    ((after (.lossOfAlignment (.cable .c0)) s).cable .c0).state = .quarantined ∧
      ((after (.lossOfAlignment (.cable .c0)) linked).cable .c0).state = .training := by decide +kernel

/-- R88, R89: a block takes slot 0, and is in transmission on the protected port and F. -/
theorem test_block_fans_out :
    let t := after (.sampleBlock (.cable .c0) 0 block) streaming
    t.pool.slots[0].map (·.refs) = some 2 ∧ (t.port .f).names 0 = 1 ∧ (t.port (.cable .c1)).names 0 = 1 ∧
      (t.run 7).expected = some 6#8 := by decide +kernel

/-! ### Witnesses: states that meet the hypotheses of the obligations -/

theorem busy_fresh : fresh.BusyLaw := by decide +kernel
theorem busy_nameless : nameless.BusyLaw := by decide +kernel
theorem busy_source : source.BusyLaw := by decide +kernel
theorem busy_linked : linked.BusyLaw := by decide +kernel
theorem busy_streaming : streaming.BusyLaw := by decide +kernel
theorem busy_following : following.BusyLaw := by decide +kernel

/-- A request with local authority stands alone at the head of the queue of a hub that is not stalled. -/
def Heading (s : State) (k : ReqKind) (operands : List Word) : Prop :=
  (asked s (ask k operands)).BusyLaw ∧ (asked s (ask k operands)).Heads k (ask k operands) []

/-- Beside that, the request passes the tests of R162. -/
def Serving (s : State) (k : ReqKind) (operands : List Word) : Prop :=
  (asked s (ask k operands)).BusyLaw ∧ (asked s (ask k operands)).Serves k (ask k operands) []

theorem heading {s : State} (hb : s.BusyLaw) (hp : s.ctl.restartPending = false) (k : ReqKind) (operands : List Word) :
    Heading s k operands :=
  ⟨hb.congr rfl rfl rfl, rfl, hp, rfl⟩

theorem serving {s : State} (hb : s.BusyLaw) (hp : s.ctl.restartPending = false) (k : ReqKind) (operands : List Word)
    (hl : operands.length = k.operandCount) : Serving s k operands :=
  ⟨hb.congr rfl rfl rfl, ⟨⟨rfl, hp, rfl⟩, hl, by cases k <;> rfl, by cases k <;> rfl⟩⟩

theorem witness_StepRunsFront : fresh.pending = [] ∧ fresh.nextDue = none ∧
    ({ fresh with now := 125000 } : State).nextDue = some (.decayStep .c0) ∧ fresh.selector.lossReport = none ∧
    (fresh.modSelector fun x => { x with lossReport := some .c2 }).selector.lossReport = some .c2 := by decide +kernel

/-- An idle tick passes, a value stands on record, and a command that is neither a reset nor a step of rack time runs. -/
theorem witness_ReceiveStamps : fresh.pending = [] ∧ fresh.selector.lossReport = none ∧ fresh.nextDue = none ∧
    fresh.tick.tick.stamps[1]? = some 0#48 ∧ fresh.tick.tick.rxStamp 1 = 8#48 ∧
    (∀ pins, Instr.decayStep .c0 ≠ .pinReset pins) ∧ Instr.decayStep .c0 ≠ .setTime ∧
    ∀ p ago m, Instr.decayStep .c0 ≠ .timeAnswer p ago m := by
  exact ⟨rfl, rfl, by decide +kernel, by decide +kernel, by decide +kernel, fun _ => nofun, nofun, fun _ _ _ => nofun⟩

/-- Too few operands; HUB RESTART from a cable port; WRITE STREAM of another's entry from a cable port; an unknown kind. -/
theorem witness_RefusedRequests :
    Heading linked .readPort [0#32] ∧
    (let r : Request := ⟨.cable .c0, ⟨.neighbour, 9, 5#4, 1#4, ReqKind.hubRestart.code, []⟩⟩;
      (asked linked r).BusyLaw ∧ (asked linked r).Heads .hubRestart r [] ∧ (asked linked r).authorityOk .hubRestart r = false) ∧
    (let r : Request := ⟨.cable .c0, ⟨.neighbour, 9, 5#4, 1#4, ReqKind.clearStream.code, [7#32]⟩⟩;
      (asked streaming r).BusyLaw ∧ (asked streaming r).Heads .clearStream r [] ∧
        (asked streaming r).authorityOk .clearStream r = true ∧ (asked streaming r).ownerOk .clearStream r = false) ∧
    (∀ k : ReqKind, (0xFF#8 : BitVec 8) ≠ k.code) :=
  ⟨heading busy_linked rfl _ _, ⟨busy_linked.congr rfl rfl rfl, ⟨rfl, rfl, rfl⟩, rfl⟩,
    ⟨busy_streaming.congr rfl rfl rfl, ⟨rfl, rfl, rfl⟩, rfl, by decide +kernel⟩, by intro k; cases k <;> decide⟩

/-- A reply with room, one on a port out of service, one on a full control queue. -/
theorem witness_ReplyFormed :
    linked.inService .f = true ∧ (linked.port .f).queues.control.length < 8 ∧ fresh.inService (.cable .c0) = false ∧
      8 ≤ ((linked.modQueues .f fun q => { q with control := List.replicate 8 ⟨.notice ⟨.neighbour, 0, 0#4, 0#12⟩, false⟩ }).port
        .f).queues.control.length := by decide +kernel

theorem witness_ReadIdentity : Heading linked .readIdentity [] := heading busy_linked rfl _ _

theorem witness_ReadPort :
    Serving linked .readPort [3#32, 1#32] ∧ Serving linked .readPort [4#32, 0#32] ∧ Serving linked .readPort [5#32, 0#32] ∧
      Serving linked .readPort [3#32, 2#32] ∧ ((ask .readPort [3#32, 1#32]).op 0).toNat = Cable.c3.number ∧
      (ask .readPort [3#32, 1#32]).op 1 = boolWord true :=
  ⟨serving busy_linked rfl _ _ rfl, serving busy_linked rfl _ _ rfl, serving busy_linked rfl _ _ rfl,
    serving busy_linked rfl _ _ rfl, rfl, rfl⟩

theorem witness_ReadRequests :
    Serving linked .readPort [4#32, 2#32] ∧ Serving linked .readStream [63#32, 1#32] ∧ Serving linked .readStream [64#32, 0#32] ∧
      Serving linked .readStream [0#32, 2#32] ∧ Serving linked .readTriggerMap [0#32, 7#32] ∧
      Serving linked .readTriggerMap [5#32, 0#32] ∧ Serving linked .readCadence [1#32] ∧ Serving linked .readCadence [2#32] ∧
      Serving linked .readTiming [1#32] ∧ Serving linked .readTiming [2#32] ∧ Serving linked .readCounters [2#32, 63#32] ∧
      Serving linked .readCounters [0#32, 5#32] :=
  ⟨serving busy_linked rfl _ _ rfl, serving busy_linked rfl _ _ rfl, serving busy_linked rfl _ _ rfl,
    serving busy_linked rfl _ _ rfl, serving busy_linked rfl _ _ rfl, serving busy_linked rfl _ _ rfl,
    serving busy_linked rfl _ _ rfl, serving busy_linked rfl _ _ rfl, serving busy_linked rfl _ _ rfl,
    serving busy_linked rfl _ _ rfl, serving busy_linked rfl _ _ rfl, serving busy_linked rfl _ _ rfl⟩

/-- The last stream of a group kind; a port beyond F and a seventh group kind name no group. -/
theorem witness_ReadRequests_groups : Group.NamedBy (.stream 63) 2#32 63#32 ∧ Group.NamedBy .control 5#32 7#32 ∧
    (∀ g, ¬ Group.NamedBy g 0#32 5#32) ∧ ∀ g, ¬ Group.NamedBy g 6#32 0#32 :=
  ⟨⟨rfl, rfl⟩, rfl,
    by
      intro g
      cases g with
      | link p => rcases p with (_ | _ | _ | _) | _ <;> simp [Group.NamedBy, portWord, Port.number, Cable.number] <;> decide
      | _ => simp [Group.NamedBy],
    by intro g; cases g <;> simp [Group.NamedBy]⟩

theorem witness_FrameRoutes_read : Serving linked .readFrameRoute [31#32] ∧ Serving linked .readFrameRoute [32#32] ∧
    Serving linked .readFrameRoute [4#32] :=
  ⟨serving busy_linked rfl _ _ rfl, serving busy_linked rfl _ _ rfl, serving busy_linked rfl _ _ rfl⟩

theorem witness_FrameRoutes : Serving linked .writeFrameRoute [31#32, 0#32, 3#32] ∧
    Serving linked .writeFrameRoute [0#32, absentWord, absentWord] ∧ Serving linked .writeFrameRoute [32#32, 0#32, 1#32] ∧
    Serving linked .writeFrameRoute [0#32, 4#32, absentWord] ∧ Serving linked .writeFrameRoute [0#32, absentWord, 1#32] ∧
    Serving linked .writeFrameRoute [0#32, 1#32, 1#32] :=
  ⟨serving busy_linked rfl _ _ rfl, serving busy_linked rfl _ _ rfl, serving busy_linked rfl _ _ rfl,
    serving busy_linked rfl _ _ rfl, serving busy_linked rfl _ _ rfl, serving busy_linked rfl _ _ rfl⟩

/-- The operands that name `entry` for stream 7. -/
def entryOperands (n quota : Word) : List Word :=
  [n, 3#32, 0#32, 0b10010#32, 1#32, 2#32, 2#32, quota, 0#32, 0#32, absentWord, 0#32]

/-- The stream hub holding two blocks of stream 7. -/
def holdingTwo : State := streaming.modPool fun p => { p with held := p.held.set 7 2 }

theorem witness_WriteStream :
    Serving linked .writeStream (entryOperands 63#32 4#32) ∧ Serving linked .writeStream (entryOperands 64#32 4#32) ∧
      Serving holdingTwo .writeStream (entryOperands 7#32 1#32) :=
  ⟨serving busy_linked rfl _ _ rfl, serving busy_linked rfl _ _ rfl, serving (by decide +kernel) rfl _ _ rfl⟩

theorem witness_WriteStream_operands :
    (ask .writeStream (entryOperands 7#32 4#32)).entry? = some entry ∧ holdingTwo.held 7 = 2 ∧
      (ask .writeStream ((entryOperands 7#32 4#32).set 3 0b10011#32)).entry? = none := by decide +kernel

theorem witness_WrittenEntryIsSound :
    (Request.entry? ⟨.cable .c0, ⟨.neighbour, 9, 0#4, 0#4, 0x20#8, entryOperands 7#32 99#32⟩⟩).map
      (fun e => (e.owner, e.quota)) = some (9, 32) := by decide +kernel

theorem witness_ClearAndStage :
    Serving streaming .clearStream [7#32] ∧ Serving streaming .clearStream [63#32] ∧ Serving streaming .clearStream [64#32] ∧
      Serving streaming .stageRoute [7#32, 0b11000#32, absentWord, absentWord, 255#32] ∧
      Serving streaming .stageRoute [7#32, 1#32, absentWord, absentWord, 0#32] ∧
      Serving streaming .stageRoute [63#32, 2#32, absentWord, absentWord, 0#32] ∧
      Serving streaming .stageRoute [64#32, 2#32, absentWord, absentWord, 0#32] :=
  ⟨serving busy_streaming rfl _ _ rfl, serving busy_streaming rfl _ _ rfl, serving busy_streaming rfl _ _ rfl,
    serving busy_streaming rfl _ _ rfl, serving busy_streaming rfl _ _ rfl, serving busy_streaming rfl _ _ rfl,
    serving busy_streaming rfl _ _ rfl⟩

theorem witness_ClearAndStage_operands :
    ((ask .stageRoute [7#32, 0b11000#32, absentWord, absentWord, 255#32]).stagedRoute? (.cable .c0)).isSome = true ∧
      (ask .stageRoute [7#32, 1#32, absentWord, absentWord, 0#32]).stagedRoute? (.cable .c0) = none ∧
      (streaming.entry 7).valid = true ∧ (streaming.entry 63).valid = false ∧ (streaming.run 7).pendingRoute = none := by
  decide +kernel

theorem witness_WriteTriggerMap : Heading linked .writeTriggerMap [7#32, 1#32, 15#32, 30#32, 32#32, absentWord] ∧
    Heading linked .writeTriggerMap [8#32, 1#32, 15#32, 30#32, 32#32, 3#32] ∧
    Heading linked .writeTriggerMap [0#32, 1#32, 0#32, 31#32, 3#32, 4#32] :=
  ⟨heading busy_linked rfl _ _, heading busy_linked rfl _ _, heading busy_linked rfl _ _⟩

theorem witness_SetTriggerPinAndInput : Heading linked .setTriggerPin [3#32, 1#32, 600000#32] ∧
    Heading linked .setTriggerPin [4#32, 0#32, 8#32] ∧ Heading linked .setTriggerInput [3#32, 3#32, 15#32, 9#32, 9#32] ∧
    Heading linked .setTriggerInput [0#32, 4#32, 16#32, 0#32, 0#32] :=
  ⟨heading busy_linked rfl _ _, heading busy_linked rfl _ _, heading busy_linked rfl _ _, heading busy_linked rfl _ _⟩

/-- A hub whose cadence unit 0 runs. -/
def pulsing : State := linked.modCadence 0 fun u =>
  { u with settings := { u.settings with mode := .continuous }, next := some 1000000#48 }

theorem witness_SetCadence : Heading linked .setCadence [1#32, 0#32, 0#32, 0#32, 0#32, 1#32] ∧
    Heading linked .setCadence [1#32, 2#32, 1000#32, 1000#32, 999#32, 0#32] ∧
    Heading pulsing .setCadence [0#32, 1#32, 1000#32, 999#32, 992#32, 0#32] ∧ pulsing.cadence[0].settings.mode ≠ .stopped ∧
    Heading linked .setCadence [2#32, 3#32, 0#32, 0#32, 0#32, 2#32] :=
  ⟨heading busy_linked rfl _ _, heading busy_linked rfl _ _, heading (by decide +kernel) rfl _ _, by decide +kernel,
    heading busy_linked rfl _ _⟩

theorem witness_SetCadence_nextEdge :
    (CadenceSettings.mk .single 1000 999 992 false).InRange ∧ (999 : Nat) < 2 ^ 48 ∧ (2 ^ 48 - 1 : Nat) < 2 ^ 48 := by decide

theorem witness_OriginateTrigger : Heading nameless .originateTrigger [0#32, 0#32, 0#32, 0#32] ∧ nameless.frame = unassigned ∧
    Heading linked .originateTrigger [15#32, 1#32, 0#32, 0x80000000#32] ∧ linked.frame ≠ unassigned ∧
    Heading linked .originateTrigger [15#32, 0#32, 0#32, 0x80000001#32] ∧
    Heading linked .originateTrigger [16#32, 2#32, 65536#32, 0#32] :=
  ⟨heading busy_nameless rfl _ _, rfl, heading busy_linked rfl _ _, by decide, heading busy_linked rfl _ _,
    heading busy_linked rfl _ _⟩

theorem witness_OriginateTrigger_times : linked.ns = 0#48 ∧ stampDiff 0x80000000#48 0#48 ≤ 2 ^ 31 ∧
    2 ^ 31 < stampDiff 0x80000001#48 0#48 := by decide +kernel

theorem witness_SetTiming :
    Serving linked .setTiming [1#32, 0#32, 0#32, 0#32, 0#32, 0#32, 0#32, 0#32] ∧
      Serving source .setTiming [0#32, 0#32, 28#32, 8#32, 13#32, 1000001#32, 10001#32, 256#32] ∧
      Serving linked .setTiming [2#32, 0#32, 23#32, 3#32, 6#32, 20000#32, 100#32, 10#32] ∧
      linked.UpstreamLaw ∧ linked.RateLaw ∧ source.UpstreamLaw ∧ source.RateLaw :=
  ⟨serving busy_linked rfl _ _ rfl, serving busy_source rfl _ _ rfl, serving busy_linked rfl _ _ rfl, by decide +kernel,
    by decide +kernel, by decide +kernel, by decide +kernel⟩

/-- A SOURCE hub with a neighbour at rank 1 on C0, which becomes the upstream in FOLLOW; a FOLLOW hub with an upstream. -/
theorem witness_SetTiming_found :
    let s := withPort source .c0 .active
    s.BusyLaw ∧ s.UpstreamLaw ∧ s.RateLaw ∧ s.time.role = .source ∧ s.selector.lossReport = none ∧ (s.cable .c0).eligible = true ∧
      s.selector.mute.get .c0 = none ∧ (s.cable .c0).neighbour = some near ∧ near.rank.toNat ≤ 13 ∧
      near.upstream ≠ some s.frame ∧ (∀ c ∈ Cable.all, ∀ m ∈ (s.cable c).neighbour, near.rank = m.rank ∧ Cable.c0.number ≤ c.number) ∧
      following.RateLaw ∧ following.UpstreamLaw ∧ following.selector.upstream ≠ none := by decide +kernel

/-- HOLDOVER since 10 s ago: a limit of 10 s ends it, one of 11 s does not. -/
theorem witness_SetTiming_holdover :
    let s := { (linked.modTime fun t => { t with state := .holdover, holdoverSince := some 0 }) with now := 1250000000 }
    s.BusyLaw ∧ s.UpstreamLaw ∧ s.RateLaw ∧ s.selector.lossReport = none ∧ 10 * 125000000 ≤ s.now - 0 ∧
      s.now - 0 < 11 * 125000000 := by decide +kernel

/-- A SOURCE hub with one entry for time 9 and one for time 10. -/
def passing : State := source.modTrig fun t =>
  { t with schedule := [⟨9#48, .pin 1, 5, 9, .traceable, false⟩, ⟨10#48, .gates, 5, 9, .traceable, false⟩] }

theorem witness_SetTimeAndSteps : Serving source .setTime [65535#32, 7#32] ∧ source.time.state = .source ∧
    Serving source .setTime [65536#32, 0#32] ∧ Serving linked .setTime [0#32, 0#32] ∧ linked.time.state ≠ .source ∧
    0 < stampDiff (source.stepTo (9#48 ++ 0#24)).ns source.ns ∧ stampDiff (source.stepTo 0#72).ns source.ns ≤ 0 ∧
    (passing.trig.schedule.filter fun e => decide (stampDiff e.fire (passing.stepTo (9#48 ++ 0#24)).ns ≤ 0)).length = 1 :=
  ⟨serving busy_source rfl _ _ rfl, rfl, serving busy_source rfl _ _ rfl, serving busy_linked rfl _ _ rfl,
    by decide +kernel, by decide +kernel, by decide +kernel, by decide +kernel⟩

theorem witness_NoticeRequests : Serving linked .setReport [31#32, 4095#32, 32#32] ∧ Serving linked .setReport [32#32, 0#32, 8#32] ∧
    Serving linked .setReport [0#32, 4096#32, 8#32] ∧ Serving linked .setReport [0#32, 0#32, 9#32] ∧
    Heading linked .readNotices [] ∧ Serving linked .clearNotices [4095#32] ∧ Serving linked .clearNotices [4096#32] :=
  ⟨serving busy_linked rfl _ _ rfl, serving busy_linked rfl _ _ rfl, serving busy_linked rfl _ _ rfl,
    serving busy_linked rfl _ _ rfl, heading busy_linked rfl _ _, serving busy_linked rfl _ _ rfl,
    serving busy_linked rfl _ _ rfl⟩

theorem witness_ClearCounters : Serving linked .clearCounters [1#32, 4#32] ∧ Group.NamedBy (.traffic .f) 1#32 4#32 ∧
    Serving linked .clearCounters [6#32, 5#32] ∧ ∀ g, ¬ Group.NamedBy g 6#32 5#32 :=
  ⟨serving busy_linked rfl _ _ rfl, ⟨rfl, rfl⟩, serving busy_linked rfl _ _ rfl, by intro g; cases g <;> simp [Group.NamedBy]⟩

/-- 31 is refused, the present number 4 changes nothing, and 9 is the neighbour's. -/
theorem witness_SetFrameNumber : Serving linked .setFrameNumber [31#32] ∧ Serving linked .setFrameNumber [4#32] ∧
    Serving linked .setFrameNumber [9#32] ∧ (linked.cable .c0).neighbour.map (·.frame) = some 9 ∧ (linked.cable .c0).InService :=
  ⟨serving busy_linked rfl _ _ rfl, serving busy_linked rfl _ _ rfl, serving busy_linked rfl _ _ rfl, by decide +kernel,
    by decide +kernel⟩

/-- The neighbour of the upstream port C0 gives frame 9, C1 has another neighbour and is idle, and C2 is DRAINING, its drain closed. -/
def clashing : State :=
  (withPort (following.modCable .c1 fun u => { u with neighbour := some { near with frame := 8 } }) .c2 .draining).modCable .c2 fun u =>
    { u with neighbour := some { near with frame := 7 }, drain := some ⟨⟨.f, 3, 5#4⟩, none, 2, true⟩ }

theorem witness_SetFrameNumber_upstreamClash : Serving clashing .setFrameNumber [9#32] ∧
    clashing.selector.upstream = some .c0 ∧ (clashing.cable .c0).InService ∧
    (clashing.cable .c0).neighbour.map (·.frame) = some 9 ∧ (clashing.cable .c1).state = .active ∧
    (clashing.cable .c1).neighbour.map (·.frame) = some 8 ∧ (clashing.port (.cable .c1)).tx = none ∧
    (clashing.cable .c2).state = .draining ∧ clashing.drainClosed .c2 = true :=
  ⟨serving (by decide +kernel) rfl _ _ rfl, by decide +kernel, by decide +kernel, by decide +kernel, by decide +kernel,
    by decide +kernel, by decide +kernel, by decide +kernel, by decide +kernel⟩

/-- R197: the HELLO on C1 goes out before the evaluation, with the new number; the upstream port has no entry then (log entry 33). -/
theorem test_hello_before_evaluation :
    ((after .setFrameNumber (asked clashing (ask .setFrameNumber [9#32]))).port (.cable .c1)).tx.map (·.msg) =
      some (.hello ⟨9, none, 15#4, .follow, false⟩) := by decide +kernel

/-- No neighbour gives frame 8, and C1 is idle. -/
theorem witness_SetFrameNumber_noClash : Serving linked .setFrameNumber [8#32] ∧
    (∀ c ∈ Cable.all, (linked.cable c).neighbour.map (·.frame) ≠ some 8) ∧ (linked.cable .c1).state = .active ∧
    (linked.port (.cable .c1)).tx = none :=
  ⟨serving busy_linked rfl _ _ rfl, by decide +kernel, by decide +kernel, by decide +kernel⟩

theorem witness_SetPort : linked.ServiceLaw ∧ Serving linked .setPort [4#32, 1#32, 1#32, 0#32] ∧ Serving linked .setPort [0#32, 1#32, 1#32, 2#32] ∧
    Serving linked .setPort [0#32, 1#32, 1#32, 1#32] ∧ Serving linked .setPort [3#32, 0#32, 0#32, 1#32] ∧
    (linked.cable .c0).rate = .full ∧ (linked.cable .c3).state = .training :=
  ⟨by decide +kernel, serving busy_linked rfl _ _ rfl, serving busy_linked rfl _ _ rfl, serving busy_linked rfl _ _ rfl,
    serving busy_linked rfl _ _ rfl, by decide +kernel, by decide +kernel⟩

/-- The linked hub with C0 DRAINING. -/
def draining : State := withPort linked .c0 .draining

theorem busy_draining : draining.BusyLaw := by decide +kernel

theorem witness_DrainPort : Serving linked .drainPort [4#32, 0#32] ∧ Serving draining .drainPort [0#32, 1#32] ∧
    (draining.cable .c0).drain ≠ none ∧ Serving linked .drainPort [3#32, 10001#32] ∧ (linked.cable .c3).state ≠ .active ∧
    Serving linked .drainPort [0#32, 10001#32] ∧ (linked.cable .c0).state = .active ∧ (linked.cable .c0).drain = none :=
  ⟨serving busy_linked rfl _ _ rfl, serving busy_draining rfl _ _ rfl, by decide +kernel, serving busy_linked rfl _ _ rfl,
    by decide +kernel, serving busy_linked rfl _ _ rfl, by decide +kernel, by decide +kernel⟩

/-- C0 in GREETING, C1 PARKED with its parking HELLO in transmission. -/
def greeting : State := sends (withPort (withPort fresh .c0 .greeting) .c1 .parked) (.cable .c1) (.query 1#8) .parking

theorem witness_RestorePort : Serving draining .restorePort [4#32] ∧ Serving draining .restorePort [1#32] ∧
    (draining.cable .c1).state = .active ∧ Serving draining .restorePort [0#32] ∧ (draining.cable .c0).state = .draining ∧
    draining.ServiceLaw ∧ draining.TransmitLaw ∧
    (let s := withPort linked .c0 .quarantined; s.ServiceLaw ∧ s.TransmitLaw ∧ s.BusyLaw ∧ (s.cable .c0).state = .quarantined) ∧
    greeting.ServiceLaw ∧ greeting.TransmitLaw ∧ greeting.BusyLaw ∧ (greeting.cable .c1).state = .parked :=
  ⟨serving busy_draining rfl _ _ rfl, serving busy_draining rfl _ _ rfl, by decide +kernel, serving busy_draining rfl _ _ rfl,
    by decide +kernel, by decide +kernel, by decide +kernel, by decide +kernel, by decide +kernel, by decide +kernel, by decide +kernel,
    by decide +kernel⟩

/-- The linked hub with a loop test pending on C0, its ECHO sent at 1000. -/
def looping : State := linked.modCable .c0 fun u => { u with loop := some ⟨⟨.f, 3, 5#4⟩, 2#8, some 1000#48, some 12500⟩ }

theorem busy_looping : looping.BusyLaw := by decide +kernel

theorem witness_DrainPort_loopTest : Serving linked .loopTest [4#32] ∧ Serving looping .loopTest [0#32] ∧
    (looping.cable .c0).loop ≠ none ∧ Serving linked .loopTest [3#32] ∧ Serving linked .loopTest [0#32] ∧
    (linked.cable .c0).loop = none ∧ (linked.cable .c0).state = .active :=
  ⟨serving busy_linked rfl _ _ rfl, serving busy_looping rfl _ _ rfl, by decide +kernel, serving busy_linked rfl _ _ rfl,
    serving busy_linked rfl _ _ rfl, by decide +kernel, by decide +kernel⟩

/-- A pending restart, its reply in transmission on F; the same with the reply still queued; nothing left of the reply. -/
theorem witness_HubRestart :
    Serving linked .hubRestart [] ∧ linked.fActive = true ∧ (linked.port .f).queues.control.length < 8 ∧
      (asked { linked with fActive := false } (ask .hubRestart [])).Serves .hubRestart (ask .hubRestart []) [] ∧
      linked.ctl.restartPending = false ∧
      (let s := (asked linked (ask .readPort [0#32, 0#32])).modCtl fun x => { x with restartPending := true };
        s.ctl.restartPending = true ∧ s.fActive = true ∧
          ((sends s .f (.query 1#8) (.control true)).port .f).tx = some ⟨.query 1#8, .control true, 0, 100, some 0#48⟩ ∧
          (s.port .f).tx = none ∧ (s.port .f).queues.control = []) :=
  ⟨serving busy_linked rfl _ _ rfl, by decide +kernel, by decide +kernel, ⟨⟨rfl, rfl, rfl⟩, rfl, rfl, rfl⟩, rfl,
    rfl, rfl, rfl, rfl, rfl⟩

theorem witness_RestartEffect : following.RateLaw ∧ following.time.state.following ∧ following.time.role = .follow ∧
    (following.cable .c0).InService ∧ (following.cable .c2).state = .training ∧ (following.cable .c2).level = true := by
  decide +kernel

/-- One receive fault short of a full budget on C0, in ACTIVE and, on C2, in TRAINING; F and C0 collect, and C1 hears a message
overrun. -/
def faulty : State :=
  ((((heard linked).modCable .c0 fun u => { u with budget := 7 }).modPort (.cable .c1) fun u => { u with rx := .afterCheck }).modPort
    (.cable .c2) fun u => { u with aligned := true, rx := .ready }).modCable .c2 fun u => { u with budget := 7 }

theorem busy_faulty : faulty.BusyLaw := by decide +kernel

theorem witness_ReceiveFaults : faulty.BusyLaw ∧ faulty.collects .f = true ∧ linked.collects (.cable .c0) = true ∧
    (linked.cable .c0).budget < 7 ∧ faulty.hears (.cable .c1) = true ∧ (faulty.port (.cable .c1)).rx = .afterCheck ∧
    (let s := linked.modCable .c0 fun u => { u with budget := 8 }; s.collects (.cable .c0) = true ∧ s.BusyLaw) := by
  decide +kernel

theorem witness_BudgetFull : faulty.BusyLaw ∧ faulty.collects (.cable .c0) = true ∧ (faulty.cable .c0).budget = 7 ∧
    (faulty.cable .c0).state = .active ∧ faulty.collects (.cable .c2) = true ∧ (faulty.cable .c2).budget = 7 ∧
    (faulty.cable .c2).state = .training ∧
    (let s := faulty.modPort (.cable .c0) fun u => { u with rx := .afterCheck }; s.BusyLaw ∧ s.hears (.cable .c0) = true ∧
      (s.port (.cable .c0)).rx = .afterCheck) := by decide +kernel

theorem witness_ReceiverGate : faulty.collects .f = true ∧ faulty.hears .f = true ∧ fresh.hears (.cable .c0) = false ∧
    fresh.collects (.cable .c0) = false ∧ faulty.collects (.cable .c2) = true ∧ (faulty.cable .c2).state = .training := by
  decide +kernel

theorem witness_PresenceEdges : (linked.cable .c0).level = true ∧ (linked.cable .c0).InService ∧
    (let s := State.atPinReset { pinsOf 4#5 false with cd := ⟨false, false, false, false⟩, fpres := false } [];
      (s.cable .c0).level ≠ true ∧ (s.cable .c0).state = .dark ∧ (s.cable .c0).admits = true ∧ s.fActive = false) ∧
    linked.fActive = true ∧ linked.ctl.restartPending = false := by decide +kernel

theorem witness_Alignment : (fresh.cable .c0).state = .training ∧ (fresh.port (.cable .c0)).aligned = false ∧
    (fresh.cable .c0).outstanding = none ∧ (linked.cable .c0).level = true ∧ (linked.cable .c0).InService ∧
    fresh.fActive = true ∧ (draining.cable .c0).InService ∧ (draining.cable .c0).drain ≠ none ∧
    (looping.cable .c0).loop ≠ none := by decide +kernel

theorem witness_PortTimers : (greeting.cable .c0).state = .greeting ∧
    (greeting.port (.cable .c1)).tx = some ⟨.query 1#8, .parking, 0, 100, some 0#48⟩ ∧ (fresh.port (.cable .c0)).aligned = false ∧
    (let s := (withPort fresh .c0 .training).modCable .c0 fun u => { u with outstanding := some ⟨0#8, 12500⟩ };
      (s.cable .c0).outstanding ≠ none ∧ (s.port (.cable .c0)).aligned = true) ∧
    (linked.modCable .c0 fun u => { u with cleanRun := some 5 }).cable .c0 ≠ linked.cable .c0 := by decide +kernel

theorem witness_ArbiterChoice :
    (linked.modCable .c0 fun u => { u with returnDue := some 1#8, echoDue := some 2#8, helloDue := true }).choice (.cable .c0) =
      some (.returned 1#8) ∧
    linked.arbiterRuns .f = true ∧ (linked.port .f).tx = none ∧ linked.choice .f = none ∧
    (after (.sampleBlock (.cable .c0) 0 block) streaming).pool.slots[0] ≠ none ∧
    (linked.cable .c0).state = .active ∧ (linked.cable .c2).state = .training ∧ (draining.cable .c0).state = .draining ∧
    draining.drainClosed .c0 = false ∧ (greeting.cable .c1).state = .parked := by decide +kernel

/-- C0's drain has closed while a query is still in transmission. -/
def closing : State :=
  sends (draining.modCable .c0 fun u => { u with drain := some ⟨⟨.f, 3, 5#4⟩, none, 2, true⟩ }) (.cable .c0) (.query 1#8) .timing

theorem witness_PortParks : closing.EmptyQueueLaw ∧ draining.EmptyQueueLaw ∧ closing.drainClosed .c0 = true ∧
    (closing.port (.cable .c0)).tx = some ⟨.query 1#8, .timing, 0, 100, some 0#48⟩ ∧ draining.drainClosed .c0 = false ∧
    (draining.port (.cable .c0)).queues.sampleAndTrigger = 0 ∧ (draining.port (.cable .c0)).tx = none ∧
    (let s := sends draining (.cable .c0) (.query 1#8) .timing; s.EmptyQueueLaw ∧ (s.port (.cable .c0)).sendsSample = false) ∧
    (let s := sends draining (.cable .c0) (.query 1#8) .trigger; s.EmptyQueueLaw ∧ (s.port (.cable .c0)).sendsSample = true) := by
  decide +kernel

/-- A query starts on C0 one tick before the IDLE that is owed has left; an ABORT is owed on C1, and an IDLE on F. -/
def spaced : State :=
  (((linked.modPort (.cable .c0) fun u =>
      { u with tx := some ⟨.query 0#8, .timing, 1, 5, none⟩, owed := [⟨.idle, 0, 1⟩] }).modPort (.cable .c1) fun u =>
    { u with owed := [⟨.word (.query 3#8), 0, 1⟩, ⟨.abort, 1, 3⟩] }).modPort .f fun u =>
      { u with owed := [⟨.idle, 0, 2⟩] }).modTime fun t =>
      { t with outstanding := some ⟨0#8, .c0, none, 250000⟩ }

/-- A query whose words left C0 at ticks 0 to 3, seen at tick `now`. -/
def leaving (now : Nat) : State :=
  { linked.modPort (.cable .c0) fun u => { u with tx := some ⟨.query 9#8, .timing, 0, 4, some 0#48⟩ } with now := now }

theorem witness_WordsOnTheLink :
    ((leaving 4).port (.cable .c0)).tx = some ⟨.query 9#8, .timing, 0, 4, some 0#48⟩ ∧ (leaving 4).now = 4 ∧
      (4 : Nat) = 0 + msgLength (.query 9#8) * 2 ∧
    (spaced.port (.cable .c0)).tx = some ⟨.query 0#8, .timing, 1, 5, none⟩ ∧ (5 : Nat) = 1 + msgLength (.query 0#8) * 2 ∧
      (spaced.port (.cable .c0)).owed = [⟨.idle, 0, 1⟩] ∧
      (spaced.port (.cable .c1)).owed = [⟨.word (.query 3#8), 0, 1⟩] ++ [⟨.abort, 1, 3⟩] ∧
      (spaced.port .f).owed = [] ++ [⟨.idle, 0, 2⟩] ∧ (linked.port .f).owed = [] ∧ ((sends linked .f (.query 1#8) .timing).port .f).tx =
        some ⟨.query 1#8, .timing, 0, 100, some 0#48⟩ := by decide +kernel

/-- R3, R17: a message that follows another leaves one word time, two ticks, later; its stamp is RT_ns at that tick (16 ns), and
until then the line shows IDLE. -/
theorem test_idle_between_messages :
    let s := (sends linked (.cable .c0) (.query 9#8) .timing).modQueues (.cable .c0) fun q =>
      { q with timing := [.answer 3#8 7#48] }
    let t := after (.transmissionEnds (.cable .c0)) s
    t.lineOut (.cable .c0) = .idle ∧ t.tick.lineOut (.cable .c0) = .idle ∧
      t.tick.tick.lineOut (.cable .c0) = .message (.answer ⟨0#2, 15#4, 3#8, 7#48, 16#48⟩) := by decide +kernel

/-- R3, R39: a drain timeout that cuts a message lets the word that is leaving end, at tick 2, and sends ABORT for one word time in
place of the next; one IDLE, and the parking HELLO. -/
theorem test_abort_before_parking_hello :
    let t := after (.drainTimeout .c0) (((sends (withPort linked .c0 .draining) (.cable .c0) (.trigger ⟨3, 0#2, 1, 0#8, 0#4, 0#48⟩)
      .trigger).modPort (.cable .c0) fun u => { u with tx := u.tx.map fun x => { x with endsAt := 8 } }))
    t.tick.lineOut (.cable .c0) = .message (.trigger ⟨3, 0#2, 1, 0#8, 0#4, 0#48⟩) ∧
      t.tick.tick.lineOut (.cable .c0) = .abort ∧ t.tick.tick.tick.lineOut (.cable .c0) = .abort ∧
      t.tick.tick.tick.tick.lineOut (.cable .c0) = .idle ∧ (t.port (.cable .c0)).tx.map (fun x => (x.source, x.startsAt)) = some (.parking, 6) := by decide +kernel

/-- R3, R1: a message cut before its first word leaves the IDLE owed after the check word before it, then ABORT for one word time
(ticks 1 and 2), and on a port that has gone to DARK nothing more. -/
theorem test_idle_before_abort :
    let t := after (.detectEdge .c0 false) spaced
    t.lineOut (.cable .c0) = .idle ∧ t.tick.lineOut (.cable .c0) = .abort ∧ t.tick.tick.lineOut (.cable .c0) = .abort ∧
      t.tick.tick.tick.lineOut (.cable .c0) = .quiet := by decide +kernel

/-- R3, R62: at tick 3 the check word is still leaving, and retraining cuts the query and counts it; at tick 4 it has left, the
query is not cut, and the IDLE after it (ticks 4 and 5) comes before ALIGN. -/
theorem test_sent_check_word_is_not_cut :
    let cut : State → Word := fun s => s.counters.get (.traffic (.cable .c0) .cut)
    let t := after (.retrainingSeen .c0) (leaving 4)
    cut (after (.retrainingSeen .c0) (leaving 3)) = 1#32 ∧ cut t = 0#32 ∧ t.lineOut (.cable .c0) = .idle ∧
      ({ t with now := 5 } : State).lineOut (.cable .c0) = .idle ∧
      ({ t with now := 6 } : State).lineOut (.cable .c0) = .align := by decide +kernel

/-- R17: RT_ns is 8 ns at tick 1; at tick 3 a query whose first word passed two ticks ago is answered with t2 = 8 ns. -/
theorem test_receive_stamp :
    ((after (.delayQuery (.cable .c0) 2 7#8) linked.tick.tick.tick).port (.cable .c0)).tx.map (·.msg) =
      some (.answer ⟨0#2, 15#4, 7#8, 8#48, 24#48⟩) := by decide +kernel

/-- R109, R112: a step to 9 ns shows in no stamp of its own tick, which stays at 0 on record; the next tick's, 8 ns on, takes it. -/
theorem test_step_shows_from_next_tick :
    let t := source.stepTo (9#48 ++ 0#24)
    t.ns = 9#48 ∧ t.rxStamp 0 = 0#48 ∧ t.tick.rxStamp 1 = 0#48 ∧ t.tick.rxStamp 0 = 17#48 := by decide +kernel

/-- R131: on becoming FOLLOW an idle port starts its HELLO with rank 15 and no upstream, and the evaluation after it finds the
neighbour on C0. -/
theorem test_follow_announces_first :
    let s := asked (withPort source .c0 .active) (ask .setTiming [0#32, 0#32, 23#32, 3#32, 6#32, 20000#32, 100#32, 10#32])
    let t := after .setTiming s
    (t.port (.cable .c0)).tx.map (·.msg) = some (.hello ⟨4, none, 15#4, .follow, false⟩) ∧ t.time.state = .acquiring ∧
      t.rank = 2#4 := by decide +kernel

/-- C0 in TRAINING, C1 in GREETING, C2 DRAINING and C3 ACTIVE, every timer of theirs run out, and of the other units. -/
def overdue : State :=
  let s := withPort (withPort (withPort (withPort fresh .c0 .training) .c1 .greeting) .c2 .draining) .c3 .active
  let s := s.modCable .c0 fun u => { u with attemptEnds := some 1, outstanding := some ⟨0#8, 2⟩ }
  let s := s.modCable .c1 fun u => { u with greetEnds := some 1, repeatAt := some 2 }
  let s := s.modCable .c3 fun u =>
    { u with refreshAt := some 3, cleanRun := some 4, loop := some ⟨⟨.f, 3, 5#4⟩, 2#8, some 1000#48, some 9⟩ }
  let s := s.modTrig fun t =>
    { t with
      pins := t.pins.set 1 ⟨.activeHigh, 8, some 7⟩
      schedule := [⟨0#48, .pin 1, 5, 9, .traceable, true⟩] }
  let s := s.modCadence 1 fun u => { u with next := some 0#48, highUntil := some 7 }
  let s := s.modTime fun t =>
    { t with state := .holdover, holdoverSince := some 0, outstanding := some ⟨0#8, .c3, none, 8⟩, queryAt := some 9 }
  let s := s.modSelector fun x => { x with mute := x.mute.set .c3 (some 5) }
  { sends s .f (.query 1#8) .timing with now := 2000000000 }

theorem witness_RowsDue : overdue.nextDue = some (.transmissionEnds .f) ∧
    [.trainingAttemptTimeout .c0, .echoWaitExpiry .c0, .greetingWaitExpiry .c1, .helloRepeat .c1, .drainCloses .c2,
      .drainTimeout .c2, .loopTestTimeout .c3, .helloRefresh .c3, .cleanRunTimerRunsOut .c3, .decayStep .c3,
      .muteTimerRunsOut .c3, .pinCountRunsOut 1, .cadencePulseEnds 1, .firing, .cadenceEdgeTaken 1, .queryTimerExpiry,
      .answerWaitEnds, .holdoverLimitReached].all (overdue.due.contains ·) = true ∧
    fresh.due = [] ∧
    (let s := (asked linked (ask .readPort [0#32, 0#32]));
      s.ctl.restartPending = false ∧ s.due = [.readPort] ∧
        (s.modCtl fun x => { x with restartPending := true }).due = [.restartTakesEffect]) ∧
    (let s := { greeting with now := 100 }; s.due = [.parkingHelloEnds .c1]) := by decide +kernel

/-- Misrouted on C1, a length of 1, a stale sequence against 134, a closed gate, and a late block of a LOCKED hub. -/
theorem witness_SampleDrops : streaming.BusyLaw ∧ streaming.collects (.cable .c0) = true ∧ streaming.inService (.cable .c0) = true ∧
    streaming.collects (.cable .c1) = true ∧ streaming.inService (.cable .c1) = true ∧ (streaming.entry 7).valid = true ∧
    (streaming.entry 8).valid = false ∧ block.samples.length = (streaming.entry 7).length ∧
    128 ≤ (block.seq - 133#8).toNat ∧ (block.seq - 134#8).toNat < 128 ∧
    (let s := { streaming with frame := unassigned }; s.BusyLaw ∧ s.collects (.cable .c0) = true ∧
      s.inService (.cable .c0) = true) ∧
    (let s := { (streaming.modTime fun t => { t with state := .locked, counter := 1001#48 ++ 0#24 }) with
        streams := streaming.streams.set 7 ⟨{ entry with lateness := 1 }, StreamRun.initial false⟩ };
      s.BusyLaw ∧ ((s.entry 7).lateness * 1000 : Int) < stampDiff s.ns block.stamp ∧ (s.run 7).gateOpen = true) := by
  decide +kernel

theorem conservation_streaming : streaming.ConservationLaw := by
  have free : ∀ i : Fin 96, streaming.pool.slots[i] = none ∧ i ∈ streaming.pool.free ∧ streaming.references i = 0 := by
    decide +kernel
  refine ⟨by decide +kernel, fun i => ?_⟩
  rw [(free i).1]
  exact (free i).2

/-- With the route as it stands, with a staged route that is adopted, with every sample queue full, and at the quota. -/
theorem witness_SampleForwarded : streaming.BusyLaw ∧ streaming.collects entry.ingress = true ∧
    streaming.inService entry.ingress = true ∧ streaming.frame ≠ unassigned ∧ (streaming.entry 7) = entry ∧ (streaming.run 7).gateOpen = true ∧ sequenceGap (streaming.run 7).expected block.seq ≠ none ∧
    streaming.lateBlock entry (streaming.stampBlock entry (streaming.rxStamp 0) block).1 (streaming.stampBlock entry (streaming.rxStamp 0) block).2 = false ∧
    streaming.held 7 < entry.quota ∧ streaming.pool.free.head? = some 0 ∧ streaming.isActive (.cable .c1) = true ∧
    streaming.isActive (.cable .c2) = false ∧
    (let s := streaming.modRun 7 fun u => { u with pendingRoute := some ⟨⟨0b10000#5, none, none⟩, 5#8⟩ };
      s.BusyLaw ∧ (block.seq - 5#8).toNat < 128) ∧
    (let s := streaming.modPool fun p => { p with held := p.held.set 7 4 }; s.BusyLaw ∧ entry.quota ≤ s.held 7) := by
  decide +kernel

/-- A stream of class BULK, with C1 idle and F busy: the entry is in transmission on C1 and waits in F's bulk queue. -/
theorem witness_SampleForwarded_queues :
    let s := sends { streaming with streams := streaming.streams.set 7 ⟨{ entry with cls := .bulk }, StreamRun.initial false⟩ } .f
      (.query 0#8) .timing
    let t := after (.sampleBlock (.cable .c0) 0 block) s
    s.BusyLaw ∧ (s.port (.cable .c1)).tx = none ∧ (s.port .f).tx ≠ none ∧ (t.port .f).queues.bulk = [0] ∧
      (t.port .f).queues.urgent = [] ∧ (t.port (.cable .c1)).tx.map (·.source) = some (.sample 0) := by decide +kernel

/-- The free count at the watermark; both sample queues of C1 together full; the stamp taken at entry. -/
theorem witness_SampleForwarded_limits :
    (let s := streaming.modPool fun p => { p with watermark := 96 }; s.pool.free.length = s.pool.watermark ∧ s.BusyLaw) ∧
    (let s := sends (streaming.modQueues (.cable .c1) fun q => { q with urgent := List.replicate 48 0 }) (.cable .c1)
        (.query 0#8) .timing;
      s.BusyLaw ∧ ¬ (s.port (.cable .c1)).queues.urgent.length + (s.port (.cable .c1)).queues.bulk.length < 48) ∧
    streaming.stampBlock { entry with mode := .stampAtEntry } 9#48 block = (9#48, .untraced) := by decide +kernel

/-- Frame 9 is reached by C0; frame 8 by none. -/
def routed : State := (heard linked).modCtl fun x => { x with routes := x.routes.set 9 ⟨some .c0, none⟩ }

theorem busy_routed : routed.BusyLaw := by decide +kernel

theorem witness_ControlRequestTaken : routed.BusyLaw ∧ routed.collects .f = true ∧ routed.inService .f = true ∧ routed.ctl.queue.length < 8 ∧
    routed.routeTo 9 = some .c0 ∧ routed.routeTo 8 = none ∧ routed.frame ≠ unassigned ∧ (routed.frame : Frame) ≠ 9 ∧
    (let s := routed.modCtl fun x => { x with queue := List.replicate 8 (ask .readIdentity []) }; s.BusyLaw ∧
      8 ≤ s.ctl.queue.length) ∧
    (let s := heard nameless; s.BusyLaw ∧ s.collects .f = true ∧ s.inService .f = true ∧ s.frame = unassigned) := by
  decide +kernel

theorem witness_RepliesAndNoticesTaken : routed.BusyLaw ∧ routed.collects (.cable .c0) = true ∧ routed.inService (.cable .c0) = true ∧
    routed.fActive = true ∧ (routed.port .f).queues.control.length < 8 ∧
    (let s := { routed with fActive := false }; s.BusyLaw ∧ s.collects (.cable .c0) = true) := by decide +kernel

/-- RT_ns is 0: fire times 2^31 and −2^31 pass, one nanosecond beyond does not; 1 is scheduled and 0 is late. -/
theorem witness_TriggerNoticeTaken : routed.BusyLaw ∧ routed.collects .f = true ∧ routed.inService .f = true ∧ routed.ns = 0#48 ∧ stampDiff 0x80000000#48 0#48 = 2 ^ 31 ∧
    stampDiff 0xFFFF80000000#48 0#48 = -2 ^ 31 ∧ 2 ^ 31 < stampDiff 0x80000001#48 0#48 ∧
    stampDiff 0xFFFF7FFFFFFF#48 0#48 < -2 ^ 31 ∧ 0 < stampDiff 1#48 0#48 ∧ routed.trig.recent = [] ∧
    routed.trig.schedule = [] ∧ routed.isActive (.cable .c1) = true ∧ (routed.port (.cable .c1)).queues.trigger.length < 8 := by
  decide +kernel

/-- A map with two entries that match origin 9 on line 5, seven or eight entries in the schedule, a full trigger queue on C1. -/
def crowded (n : Nat) : State :=
  (sends (routed.modTrig fun t =>
    { t with
      map := (t.map.set 0 ⟨true, 5, 9, 1, some 0⟩).set 3 ⟨true, 5, 8, 2, some 3⟩
      schedule := List.replicate n ⟨5#48, .gates, 5, 9, .traceable, false⟩ }) (.cable .c1) (.query 0#8) .timing).modQueues
    (.cable .c1) fun q => { q with trigger := List.replicate 8 ⟨3, 0#2, 1, 0#8, 0#4, 0#48⟩ }

/-- Of two targets one fits beside seven entries, and none beside eight. -/
theorem witness_TriggerNoticeTaken_overflow : (crowded 7).BusyLaw ∧ (crowded 8).BusyLaw ∧
    (crowded 7).isActive (.cable .c1) = true ∧ 8 ≤ ((crowded 7).port (.cable .c1)).queues.trigger.length ∧
    (let t := ((crowded 7).takeNotice ⟨9, 2#2, 5, 0#8, 1#4, 6#48⟩ none).2;
      t.trig.schedule.length = 8 ∧ t.counters.get (.trigger .overflows) = 1#32 ∧
        t.counters.get (.traffic (.cable .c1) .triggerDrops) = 1#32) ∧
    (let t := ((crowded 8).takeNotice ⟨9, 2#2, 5, 0#8, 1#4, 0#48⟩ none).2;
      t.counters.get (.trigger .overflows) = 2#32 ∧ t.counters.get (.trigger .firings) = 0#32) := by decide +kernel

/-- Input 2 set to rising, with an origination at tick 0 and a hold-off of 16 ns (two ticks). -/
def armed (now : Nat) : State := { linked with now := now }.modTrig fun t =>
  { t with inputs := t.inputs.set 2 ⟨.rising, 5, 16, false, some 0⟩ }

theorem witness_InputEdgeTaken : (armed 1).BusyLaw ∧ (armed 2).BusyLaw ∧ (armed 1).now - 0 < (16 + 7) / 8 ∧
    (16 + 7) / 8 ≤ (armed 2).now - 0 ∧ (armed 1).trig.inputs[2].edge = .rising ∧ (armed 1).trig.inputs[2].level ≠ true ∧
    linked.trig.inputs[2].edge = .off := by decide +kernel

/-- A pin entry, reached, and a gate entry one nanosecond ahead; cadence 0 with its next edge reached. -/
def scheduled : State := (streaming.modTrig fun t =>
  { t with schedule := [⟨0#48, .pin 1, 5, 9, .traceable, true⟩, ⟨1#48, .gates, 5, 9, .traceable, false⟩] }).modCadence 0 fun u =>
    { u with settings := { u.settings with mode := .single }, next := some 0#48 }

theorem witness_TriggersFire : scheduled.BusyLaw ∧ 0 ≤ stampDiff scheduled.ns 0#48 ∧ stampDiff scheduled.ns 1#48 < 0 ∧
    linked.trig.schedule = [] ∧ scheduled.cadence[0].next = some 0#48 ∧ scheduled.cadence[1].next = none := by decide +kernel

theorem witness_QueriesAndAnswers : following.BusyLaw ∧ following.collects (.cable .c0) = true ∧ following.inService (.cable .c0) = true ∧
    following.time.outstanding.map (·.port) = some .c0 ∧ following.selector.upstream = some .c0 ∧
    linked.time.outstanding = none ∧ (following.port (.cable .c0)).queues.timing.length < 2 ∧
    (let s := sends (following.modQueues (.cable .c0) fun q => { q with timing := [.query 1#8, .query 2#8] }) (.cable .c0)
        (.query 0#8) .timing; s.BusyLaw ∧ 2 ≤ (s.port (.cable .c0)).queues.timing.length) := by decide +kernel

theorem witness_AnswerComputed : following.BusyLaw ∧ following.UpstreamLaw ∧ following.collects (.cable .c0) = true ∧
    following.selector.upstream = some .c0 ∧ (2#4 : BitVec 4) ≠ 15#4 ∧ following.time.outstanding = some ⟨0#8, .c0, some 1000#48, 250000⟩ ∧
    0 ≤ (stampDiff 1800#48 1000#48 - stampDiff 1400#48 1400#48) / 2 := by decide +kernel

theorem witness_UnitTimers : following.BusyLaw ∧ following.time.role = .follow ∧ following.time.queryAt ≠ none ∧ following.time.missedRun < 2 ∧
    (let s := following.modTime fun t => { t with outstanding := none }; s.BusyLaw ∧ s.time.outstanding = none) ∧
    (let s := following.modTime fun t => { t with missedRun := 2 }; s.BusyLaw ∧ s.UpstreamLaw) ∧
    (let s := linked.modTime fun t => { t with state := .holdover, holdoverSince := some 0 }; s.BusyLaw) ∧
    (linked.modSelector fun x => { x with mute := x.mute.set .c1 (some 5) }).selector.mute.get .c1 ≠ none := by decide +kernel

/-- The third miss in a row, by the refusal of a full timing queue and by the end of the wait. -/
theorem witness_UnitTimers_thirdMiss :
    let s := (sends (following.modQueues (.cable .c0) fun q => { q with timing := [.query 1#8, .query 2#8] }) (.cable .c0)
      (.query 0#8) .timing).modTime fun t => { t with missedRun := 2 }
    s.BusyLaw ∧ s.UpstreamLaw ∧ s.selector.upstream = some .c0 ∧ s.inService (.cable .c0) = true ∧
      2 ≤ (s.port (.cable .c0)).queues.timing.length ∧ s.time.queryAt ≠ none ∧ s.time.outstanding ≠ none ∧
      (s.modTime fun t => { t with outstanding := none }).time.outstanding = none := by decide +kernel

/-- The following hub with its upstream's rank as given, and C1's neighbour at rank 1. -/
def ranked (r : BitVec 4) : State := following.modCable .c0 fun u => { u with neighbour := some { near with rank := r } }

/-- Ranks 2 and 1 keep the upstream; ranks 3 and 1 replace it; ranks 14 and none lose it. -/
theorem witness_Evaluation : (ranked 2#4).keeps .c0 = true ∧ (ranked 2#4).candidate .c1 = true ∧
    (ranked 2#4).recordedRank .c0 < (ranked 2#4).recordedRank .c1 + 2 ∧
    (ranked 3#4).recordedRank .c1 + 2 ≤ (ranked 3#4).recordedRank .c0 ∧ (ranked 3#4).candidate .c1 = true ∧
    (ranked 14#4).keeps .c0 = false ∧ (ranked 14#4).candidate .c0 = false ∧ source.time.role = .source ∧
    following.UpstreamLaw := by decide +kernel

/-- A report on C0, the upstream, gives it up; one on C2 changes the mute alone. -/
theorem witness_Evaluation_report :
    (let s := (ranked 1#4).modSelector fun x => { x with lossReport := some .c0 };
      s.time.role = .follow ∧ s.evaluate.selector.upstream = some .c0 ∧ s.select.selector.upstream = some .c1) ∧
    (let s := (ranked 1#4).modSelector fun x => { x with lossReport := some .c2 };
      s.evaluate.selector.upstream ≠ some .c2 ∧ s.select.selector.upstream = some .c0 ∧
        s.select.selector.mute.get .c2 = some 125000000) := by decide +kernel

theorem witness_HelloTaken : linked.BusyLaw ∧ linked.collects (.cable .c0) = true ∧ (linked.cable .c0).InService ∧
    (linked.cable .c0).neighbour = some near ∧ (withPort fresh .c0 .greeting).BusyLaw ∧
    (withPort fresh .c0 .greeting).collects (.cable .c0) = true ∧
    (withPort fresh .c0 .training).collects (.cable .c0) = true ∧ (withPort fresh .c0 .training).BusyLaw := by decide +kernel

theorem witness_EchoTaken : looping.BusyLaw ∧ looping.collects (.cable .c0) = true ∧
    (looping.cable .c0).loop = some ⟨⟨.f, 3, 5#4⟩, 2#8, some 1000#48, some 12500⟩ ∧ (looping.cable .c0).state = .active ∧
    (let s := (withPort fresh .c0 .training).modCable .c0 fun u => { u with outstanding := some ⟨7#8, 12500⟩ };
      s.BusyLaw ∧ s.collects (.cable .c0) = true ∧ (s.cable .c0).goodRun = 0) := by decide +kernel

theorem witness_MessageRoundTrip : (LinkMsg.sample ⟨63, 3#2, 255#8, 0#48, List.replicate 64 5#32⟩).wellFormed = true ∧
    (LinkMsg.query 1#8).wellFormed = true := by decide

/-- A heading of no kind; a sample count of 65; one word of a request; a query with its check word, and with a word too many; a query
cut short; a trigger notice whose origin code is 0. -/
theorem witness_ReceivedRuns :
    (0x13000000#32 : Word).extractLsb' 24 8 = 0x13#8 ∧
    ((0x11000041#32 : Word).extractLsb' 24 8 = 0x11#8 ∧ 64 < ((0x11000041#32 : Word).extractLsb' 0 7).toNat) ∧
    receiveWords [0x12000000#32] true = .aborted ∧
    (let c := checkWord [0x41000005#32]; c.extractLsb' 16 16 = BitVec.ofNat 16 2 ∧ c.extractLsb' 0 16 = crc [0x41000005#32] ∧
      [0x41000005#32, c].take 2 = [0x41000005#32] ++ [c] ∧ overran [0x41000005#32, c, 0#32] = true) ∧
    (let b : List Word := [0x21000000#32, 0#32, 0#32]; receiveWords (b ++ [checkWord b]) false = .addressFault) := by
  decide +kernel

/-- A hub that loses its upstream advertises rank 15 and announces it, with a NOTICE to F. -/
theorem witness_EventsAreAnnounced :
    let t := after (.lossOfAlignment (.cable .c0)) (withPort following .c1 .training)
    following.rank = 2#4 ∧ t.rank = 15#4 ∧ t.notices.flags = 0b110001#12 ∧
      t.counters.get (.control .noticesSent) = 1#32 ∧ linked.notices.report = linked.frame := by decide +kernel

theorem test_idle_step_from_reset : step State.reset = .next State.reset.tick := rfl

theorem witness_TimeAndTriggerLawsKept : following.RateLaw ∧ following.SettingsLaw ∧ following.ExchangeLaw ∧ linked.RecentLaw ∧
    linked.ScheduleLaw ∧ linked.PinLaw ∧ pulsing.CadenceLaw ∧
    following.UpstreamLaw := by decide +kernel

/-- Two entries in order, close together, before a tick and after it. -/
theorem witness_TimeAndTriggerLawsKept_order : passing.OrderLaw ∧ passing.SpreadLaw ∧ passing.tick.SpreadLaw := by
  refine ⟨?_, ?_, ?_⟩ <;> decide +kernel

/-- A command that counts, one that clears its own group alone, and a step of rest. -/
theorem witness_CountersOnlyRise :
    (after .clearCounters (asked (linked.count (.timing .steps)) (ask .clearCounters [3#32, 0#32]))).counters.get (.timing .steps) =
      0#32 ∧ Group.NamedBy .timing 3#32 0#32 ∧
    (after (.abortedMessage (.cable .c0)) linked).counters.get (.link (.cable .c0) .aborted) = 1#32 ∧ fresh.nextDue = none ∧
    (let s := { linked with counters := linked.counters.add (.timing .steps) (2 ^ 33) };
      s.counters.get (.timing .steps) = 0xFFFFFFFF#32 ∧ (s.count (.timing .steps)).counters.get (.timing .steps) = 0xFFFFFFFF#32) :=
  ⟨by decide +kernel, rfl, by decide +kernel, by decide +kernel, by decide +kernel⟩

theorem witness_PortLawsKept : linked.BudgetLaw ∧ draining.ServiceLaw ∧ linked.CapacityLaw ∧ spaced.StampLaw ∧ closing.StampLaw ∧ closing.EmptyQueueLaw ∧
    closing.TransmitLaw ∧ closing.BusyLaw := by decide +kernel

theorem witness_UpstreamLawKept : following.UpstreamLaw ∧ source.UpstreamLaw ∧ linked.UpstreamLaw ∧
    source.SourceLaw ∧ following.SourceLaw := by decide +kernel

theorem witness_QueuesSoundKept : streaming.EmptyQueueLaw ∧ streaming.TransmitLaw ∧ streaming.BusyLaw ∧
    streaming.ConservationLaw ∧ streaming.HeldLaw :=
  ⟨by decide +kernel, by decide +kernel, busy_streaming, conservation_streaming, by decide +kernel⟩

theorem witness_TableLawsKept : streaming.StreamLaw ∧ streaming.QuotaLaw ∧ routed.RouteLaw ∧ routed.ControlLaw ∧
    nameless.UnassignedLaw ∧ ∃ t, step { streaming with pending := [.sampleBlock (.cable .c0) 0 block] } = .next t :=
  ⟨by decide +kernel, by decide +kernel, by decide +kernel, by decide +kernel, by decide +kernel, ⟨_, rfl⟩⟩

end Sys2Proof.Tests
end

section
/-! PROOF. READ PORT (R44). The clearing of the edge flags is a change of a cable-port unit that neither an arbiter nor a HELLO reads,
so that the event ends with its reply alone. -/

namespace Sys2Proof.Machine

/-! ### Operand words -/

theorem portOf?_of_number {w : Word} {p : Port} (h : w.toNat = p.number) : portOf? w = some p := by
  unfold portOf?
  rw [h]
  rcases p with (_ | _ | _ | _) | _ <;> rfl

theorem portOf?_eq_none {w : Word} (h : 4 < w.toNat) : portOf? w = none := by
  unfold portOf? Port.ofNat?
  split
  case h_6 => rfl
  all_goals omega

theorem boolOf?_boolWord (b : Bool) : boolOf? (boolWord b) = some b := by cases b <;> rfl

theorem boolOf?_eq_none {w : Word} (h : 1 < w.toNat) : boolOf? w = none := by
  have ne_one : w ≠ 1#32 := by rintro rfl; exact absurd h (by decide)
  have ne_zero : w ≠ 0#32 := by rintro rfl; exact absurd h (by decide)
  simp [boolOf?, ne_one, ne_zero]

/-! ### A change of a cable-port unit that the arbiter and the HELLOs do not read -/

/-- What R58's law and the advertised values read of a cable-port unit stands. -/
structure CableUnit.SameService (u v : CableUnit) : Prop where
  state : v.state = u.state
  drain : v.drain = u.drain
  maintenance : v.maintenance = u.maintenance
  neighbour : v.neighbour = u.neighbour

theorem CableUnit.SameService.refl (u : CableUnit) : u.SameService u := ⟨rfl, rfl, rfl, rfl⟩

theorem State.modCable_sameService {s : State} {c : Cable} {f : CableUnit → CableUnit}
    (h : (s.cable c).SameService (f (s.cable c))) (d : Cable) : (s.cable d).SameService ((s.modCable c f).cable d) := by
  rw [State.modCable_cable]
  split
  · next e => exact e ▸ h
  · exact .refl _

theorem State.BusyLaw.modCable {s : State} (hb : s.BusyLaw) {c : Cable} {f : CableUnit → CableUnit}
    (h : (s.cable c).SameService (f (s.cable c))) : (s.modCable c f).BusyLaw := by
  have same := State.modCable_sameService h
  intro p hp runs idle
  have runs_eq : (s.modCable c f).arbiterRuns p = s.arbiterRuns p := by
    cases p with
    | cable d => simp only [State.arbiterRuns, State.drainClosed, (same d).state, (same d).drain]
    | f => rfl
  have choice_eq : (s.modCable c f).choice p = s.choice p := by
    cases p with
    | cable d => simp only [State.choice, State.modCable_port, (same d).maintenance]
    | f => rfl
  rw [choice_eq]
  exact hb p hp (runs_eq ▸ runs) idle

/-- A change that leaves the unit as it is changes nothing. -/
theorem State.modCable_eq_self {s : State} {c : Cable} {f : CableUnit → CableUnit} (h : f (s.cable c) = s.cable c) :
    s.modCable c f = s := by
  have : s.cables.set c (f (s.cables.get c)) = s.cables := by
    rw [show f (s.cables.get c) = s.cables.get c from h, PerCable.set_get]
  simp only [State.modCable, this]

/-! ### How a served request ends -/

/-- A request that the owning block refuses changes nothing and ends with that reply (R162). -/
theorem State.Serves.ends_refused {s : State} {k : ReqKind} {r : Request} {rest : List Request} (h : s.Serves k r rest)
    (hb : s.BusyLaw) {act : State → Request → Served} {a : Answer} (he : act (s.popped rest) r = .refuse (s.popped rest) a) :
    s.serve k act = .next ((s.popped rest).sendReply (r.reply a [])) :=
  h.ends_apart hb he rfl rfl rfl rfl rfl rfl rfl rfl

/-- A request that changes a cable-port unit in nothing that the arbiter or a HELLO reads ends with its reply alone (R162, R166). -/
theorem State.Serves.ends_modCable {s : State} {k : ReqKind} {r : Request} {rest : List Request} (h : s.Serves k r rest)
    (hb : s.BusyLaw) {c : Cable} {f : CableUnit → CableUnit} (same : (s.cable c).SameService (f (s.cable c)))
    {act : State → Request → Served} {results : List Word}
    (he : act (s.popped rest) r = .done (Work.of ((s.popped rest).modCable c f)) results) :
    s.serve k act = .next (((s.popped rest).modCable c f).sendReply (r.reply .done results)) :=
  have popped_busy : (s.popped rest).BusyLaw := hb.congr rfl rfl rfl
  h.ends (popped_busy.modCable same) he
    (State.advertChanged_eq_false rfl rfl rfl rfl fun d => (State.modCable_sameService (s := s.popped rest) same d).neighbour)
    (State.noticeDue_same rfl)

/-! ### READ PORT -/

/-- What a READ PORT does to the unit of the cable port it reads, by its clear-edges operand (R44). -/
def CableUnit.clearEdges (clear : Bool) (u : CableUnit) : CableUnit :=
  if clear then { u with inserted := false, removed := false } else u

theorem CableUnit.clearEdges_sameService (clear : Bool) (u : CableUnit) : u.SameService (u.clearEdges clear) := by
  cases clear <;> exact ⟨rfl, rfl, rfl, rfl⟩

theorem exec_readPort (s : State) : exec .readPort s = s.serve .readPort readPortAct := rfl

theorem readPortAct_cable (s : State) {r : Request} {c : Cable} {clear : Bool} (hp : portOf? (r.op 0) = some (.cable c))
    (hb : boolOf? (r.op 1) = some clear) :
    readPortAct s r = .done (Work.of (s.modCable c (·.clearEdges clear))) (s.cable c).results := by
  have cleared : (if clear then s.modCable c fun u => { u with inserted := false, removed := false } else s) =
      s.modCable c (·.clearEdges clear) := by
    cases clear with
    | true => rfl
    | false => exact (State.modCable_eq_self rfl).symm
  simp only [readPortAct, hp, hb, cleared]

theorem readPortAct_f (s : State) {r : Request} {clear : Bool} (hp : portOf? (r.op 0) = some .f)
    (hb : boolOf? (r.op 1) = some clear) :
    readPortAct s r = .done (Work.of s) [boolWord s.fActive, boolWord s.fActive] := by
  simp only [readPortAct, hp, hb]

theorem readPortAct_undecodable (s : State) {r : Request} (h : portOf? (r.op 0) = none ∨ boolOf? (r.op 1) = none) :
    readPortAct s r = .refuse s .range := by
  unfold readPortAct
  split
  · next hp hb => simp [hp, hb] at h
  · next hp hb => simp [hp, hb] at h
  · rfl

/-- Settles O7: by the operands, a cable port, F, or an operand that does not decode. -/
theorem readPort : Obligations.ReadPort := by
  intro s r rest hb h
  rw [exec_readPort]
  refine ⟨fun c clear hport hclear => ?_, fun clear hport hclear => ?_, fun undecodable => ?_⟩
  · exact h.ends_modCable hb (CableUnit.clearEdges_sameService clear _)
      (readPortAct_cable _ (portOf?_of_number (p := .cable c) hport) (hclear ▸ boolOf?_boolWord clear))
  · exact h.ends_apart hb (readPortAct_f _ (portOf?_of_number (p := .f) hport) (hclear ▸ boolOf?_boolWord clear))
      rfl rfl rfl rfl rfl rfl rfl rfl
  · exact h.ends_refused hb (readPortAct_undecodable _
      (undecodable.imp portOf?_eq_none fun outside => boolOf?_eq_none outside.2))

end Sys2Proof.Machine
end

section
/-! PROOF. WRITE TRIGGER MAP (R147). The row writes the trigger unit alone, which neither an arbiter, a HELLO nor the notice unit
reads, so that it ends with its reply; what is left is which operand words decode, and to what. -/

namespace Sys2Proof.Machine

/-! ### Operand words -/

theorem natWord_toNat {n : Nat} (h : n < 2 ^ 32) : (natWord n).toNat = n := by
  rw [natWord, BitVec.toNat_ofNat, Nat.mod_eq_of_lt h]

theorem natWord_ne_absentWord {n : Nat} (h : n < 2 ^ 32 - 1) : natWord n ≠ absentWord := by
  intro e
  have top : (natWord n).toNat = 2 ^ 32 - 1 := by rw [e]; rfl
  rw [natWord_toNat (by omega)] at top
  omega

theorem finOf?_natWord {n : Nat} (hn : n ≤ 2 ^ 32) (i : Fin n) : finOf? n (natWord i.val) = some i := by
  have value : (natWord i.val).toNat = i.val := natWord_toNat (Nat.lt_of_lt_of_le i.isLt hn)
  simp [finOf?, value]

theorem finOf?_eq_none {n : Nat} {w : Word} (h : n ≤ w.toNat) : finOf? n w = none := dif_neg (Nat.not_lt.mpr h)

theorem natOf?_natWord {lo hi n : Nat} (hlo : lo ≤ n) (hhi : n ≤ hi) (fits : n < 2 ^ 32) :
    natOf? lo hi (natWord n) = some n := by
  rw [natOf?, natWord_toNat fits, if_pos ⟨hlo, hhi⟩]

theorem natOf?_eq_none {lo hi : Nat} {w : Word} (h : hi < w.toNat) : natOf? lo hi w = none :=
  if_neg fun inside => Nat.not_le.mpr h inside.2

theorem spanOf?_natWord {n : Nat} (h : n ∈ [1, 2, 4, 8, 16, 32]) : spanOf? (natWord n) = some n := by
  have le_32 : n ≤ 32 := (by decide : ∀ m ∈ [1, 2, 4, 8, 16, 32], m ≤ 32) n h
  rw [spanOf?, natWord_toNat (by omega), if_pos h]

theorem spanOf?_eq_none {w : Word} (h : w.toNat ∉ [1, 2, 4, 8, 16, 32]) : spanOf? w = none := if_neg h

/-- An optional field reads back when its values do and none of them is spelled by the absent word. -/
theorem optOf?_optWord {α : Type} {f : Word → Option α} {g : α → Word} (decodes : ∀ x, f (g x) = some x)
    (present : ∀ x, g x ≠ absentWord) (o : Option α) : optOf? f (optWord g o) = some o := by
  cases o with
  | none => exact if_pos rfl
  | some x => simp [optOf?, optWord, present, decodes]

theorem optOf?_eq_none {α : Type} {f : Word → Option α} {w : Word} (present : w ≠ absentWord) (h : f w = none) :
    optOf? f w = none := by
  simp [optOf?, present, h]

/-! ### The entry that a WRITE TRIGGER MAP names -/

theorem Request.mapEntry?_eq_some {r : Request} {e : MapEntry} (hvalid : boolOf? (r.op 1) = some e.valid)
    (hline : finOf? 16 (r.op 2) = some e.line) (hbase : natOf? 0 30 (r.op 3) = some e.base)
    (hspan : spanOf? (r.op 4) = some e.span) (hpin : optOf? (finOf? 4) (r.op 5) = some e.pin) :
    r.mapEntry? = some e := by
  simp [Request.mapEntry?, hvalid, hline, hbase, hspan, hpin]

theorem Request.mapEntry?_eq_none {r : Request}
    (h : boolOf? (r.op 1) = none ∨ finOf? 16 (r.op 2) = none ∨ natOf? 0 30 (r.op 3) = none ∨ spanOf? (r.op 4) = none ∨
      optOf? (finOf? 4) (r.op 5) = none) : r.mapEntry? = none := by
  rcases h with h | h | h | h | h <;> simp [Request.mapEntry?, h]

/-- The operand words of a map entry, as R147 lists them, name that entry. -/
theorem Request.mapEntry?_of_operands {r : Request} {index : Word} {e : MapEntry} (hbase : e.base ≤ 30)
    (hspan : e.span ∈ [1, 2, 4, 8, 16, 32])
    (h : r.msg.operands = [index, boolWord e.valid, natWord e.line.val, natWord e.base, natWord e.span,
      optWord (fun x => natWord x.val) e.pin]) : r.mapEntry? = some e := by
  have decode_pin (x : Fin 4) : finOf? 4 (natWord x.val) = some x := finOf?_natWord (by decide) x
  have pin_present (x : Fin 4) : natWord x.val ≠ absentWord := natWord_ne_absentWord (by omega)
  apply Request.mapEntry?_eq_some <;> simp only [Request.op, h]
  · exact boolOf?_boolWord e.valid
  · exact finOf?_natWord (by decide) e.line
  · exact natOf?_natWord (Nat.zero_le _) hbase (by omega)
  · exact spanOf?_natWord hspan
  · exact optOf?_optWord decode_pin pin_present e.pin

/-! ### WRITE TRIGGER MAP -/

theorem exec_writeTriggerMap (s : State) : exec .writeTriggerMap s = s.serve .writeTriggerMap writeTriggerMapAct := rfl

theorem writeTriggerMapAct_decoded (s : State) {r : Request} {i : Fin 8} {e : MapEntry} (hi : finOf? 8 (r.op 0) = some i)
    (he : r.mapEntry? = some e) :
    writeTriggerMapAct s r = .done (Work.of (s.modTrig fun t => { t with map := t.map.set i e })) := by
  simp only [writeTriggerMapAct, hi, he]

theorem writeTriggerMapAct_undecodable (s : State) {r : Request} (h : finOf? 8 (r.op 0) = none ∨ r.mapEntry? = none) :
    writeTriggerMapAct s r = .refuse s .range := by
  unfold writeTriggerMapAct
  split
  · next hi he => simp [hi, he] at h
  · rfl

/-- WRITE TRIGGER MAP is open to every port and owned by none: with six operands it is carried out (R163, R164). -/
theorem State.Heads.serves_writeTriggerMap {s : State} {r : Request} {rest : List Request}
    (h : s.Heads .writeTriggerMap r rest) (count : r.msg.operands.length = 6) : s.Serves .writeTriggerMap r rest where
  toHeads := h
  count := count
  authority := by unfold State.authorityOk; cases r.arrival <;> rfl
  owner := by unfold State.ownerOk; cases r.arrival <;> rfl

/-- Settles O13: by the operand words, all of which decode, or one of which does not. -/
theorem writeTriggerMap : Obligations.WriteTriggerMap := by
  intro s r rest hb h
  rw [exec_writeTriggerMap]
  refine ⟨fun i valid line base span pin hbase hspan operands => ?_, fun count undecodable => ?_⟩
  · have serves := h.serves_writeTriggerMap (by rw [operands]; rfl)
    have index : finOf? 8 (r.op 0) = some i := by
      simp only [Request.op, operands]
      exact finOf?_natWord (by decide) i
    have entry : r.mapEntry? = some ⟨valid, line, base, span, pin⟩ :=
      Request.mapEntry?_of_operands hbase hspan operands
    exact serves.ends_apart hb (writeTriggerMapAct_decoded _ index entry) rfl rfl rfl rfl rfl rfl rfl rfl
  · exact (h.serves_writeTriggerMap count).ends_refused hb (writeTriggerMapAct_undecodable _
      (undecodable.imp finOf?_eq_none fun outside => Request.mapEntry?_eq_none
        (outside.imp boolOf?_eq_none (.imp finOf?_eq_none (.imp natOf?_eq_none (.imp spanOf?_eq_none
          fun ⟨large, present⟩ => optOf?_eq_none present (finOf?_eq_none large)))))))

end Sys2Proof.Machine
end

section
/-! PROOF. The requests that tests 1 to 4 of R162 refuse. Every request row but HUB RESTART is `State.serve` with its block's action,
so that one argument covers the 29 kinds: the refused request leaves the queue, its reply is owed, and since a popped queue is read
by no port, no HELLO and no notice, the event ends with that reply. -/

namespace Sys2Proof.Machine

/-! ### How a refused request ends -/

/-- A request that the control unit answers itself only leaves the queue, and the event ends with its reply (R162, R166). -/
theorem State.BusyLaw.endsIn_refused {s : State} (hb : s.BusyLaw) (rest : List Request) (r : Request) (a : Answer) :
    s.endsIn ((Work.of (s.popped rest)).owe (r.reply a [])) = .next ((s.popped rest).sendReply (r.reply a [])) := by
  have popped_busy : (s.popped rest).BusyLaw := hb.congr rfl rfl rfl
  have advert_same : s.advertChanged (s.popped rest) = false :=
    State.advertChanged_eq_false rfl rfl rfl rfl fun _ => rfl
  exact congrArg Host.Outcome.next (State.conclude_plain (w := (Work.of (s.popped rest)).owe (r.reply a []))
    popped_busy rfl rfl advert_same (State.noticeDue_same rfl))

/-- Every request row but HUB RESTART is served by an action of its owning block (R162). -/
theorem exec_requestRow_eq_serve (s : State) {k : ReqKind} (other : k ≠ .hubRestart) :
    ∃ act, exec (requestRow (some k)) s = s.serve k act := by
  cases k with
  | hubRestart => exact absurd rfl other
  | _ => exact ⟨_, rfl⟩

/-- The head request that fails one of tests 2 to 4 is answered by that test, whatever its kind (R162). -/
theorem State.Heads.exec_refused {s : State} {k : ReqKind} {r : Request} {rest : List Request} (h : s.Heads k r rest)
    (hb : s.BusyLaw) {a : Answer} (refused : s.refusal? k r = some a) :
    exec (requestRow (some k)) s = .next ((s.popped rest).sendReply (r.reply a [])) := by
  have popped_refused : (s.popped rest).refusal? k r = some a := refused
  have ends : exec (requestRow (some k)) s = s.endsIn ((Work.of (s.popped rest)).owe (r.reply a [])) := by
    by_cases restart : k = .hubRestart
    · subst restart
      change execHubRestart s = _
      simp only [execHubRestart, h.take, popped_refused]
    · obtain ⟨act, row⟩ := exec_requestRow_eq_serve s restart
      simp only [row, State.serve, h.take, popped_refused]
  rw [ends, hb.endsIn_refused]

/-! ### Tests 1 to 4 -/

theorem ReqKind.ofCode?_eq_none {c : BitVec 8} (h : ∀ k : ReqKind, c ≠ k.code) : ReqKind.ofCode? c = none := by
  rw [ReqKind.ofCode?, List.find?_eq_none]
  exact fun k _ => by simpa using (h k).symm

theorem State.takeRequest_unknown {s : State} {r : Request} {rest : List Request} (head : s.ctl.queue = r :: rest)
    (running : s.ctl.restartPending = false) (unknown : ∀ k : ReqKind, r.msg.kind ≠ k.code) :
    s.takeRequest none = some (r, s.popped rest) := by
  simp [State.takeRequest, running, head, ReqKind.ofCode?_eq_none unknown, State.popped]

/-- A head request of none of the 29 kinds is answered UNKNOWN (R162 test 1). -/
theorem State.BusyLaw.exec_unknownRequestKind {s : State} (hb : s.BusyLaw) {r : Request} {rest : List Request}
    (head : s.ctl.queue = r :: rest) (running : s.ctl.restartPending = false)
    (unknown : ∀ k : ReqKind, r.msg.kind ≠ k.code) :
    exec .unknownRequestKind s = .next ((s.popped rest).sendReply (r.reply .unknown [])) := by
  change execUnknownRequestKind s = _
  simp only [execUnknownRequestKind, State.takeRequest_unknown head running unknown, hb.endsIn_refused]

section
variable {s : State} {k : ReqKind} {r : Request}

theorem State.refusal?_of_count (count : r.msg.operands.length ≠ k.operandCount) : s.refusal? k r = some .range :=
  if_pos count

theorem State.refusal?_of_authority (count : r.msg.operands.length = k.operandCount) (authority : s.authorityOk k r = false) :
    s.refusal? k r = some .authority := by
  simp [State.refusal?, count, authority]

theorem State.refusal?_of_owner (count : r.msg.operands.length = k.operandCount) (authority : s.authorityOk k r = true)
    (owner : s.ownerOk k r = false) : s.refusal? k r = some .owner := by
  simp [State.refusal?, count, authority, owner]

/-! ### What authority and ownership refuse -/

/-- R163: a cable port may neither restart the hub nor rename one that has its number. -/
theorem State.authorityOk_eq_false_iff : s.authorityOk k r = false ↔
    (∃ c, r.arrival = .cable c) ∧ (k = .hubRestart ∨ (k = .setFrameNumber ∧ s.frame ≠ unassigned)) := by
  unfold State.authorityOk
  cases r.arrival with
  | f => simp
  | cable c => cases k <;> simp

theorem finOf?_eq_some_iff {n : Nat} {w : Word} {i : Fin n} : finOf? n w = some i ↔ w.toNat = i.val := by
  rw [finOf?, Option.dite_none_right_eq_some]
  constructor
  · rintro ⟨_, named⟩
    exact congrArg Fin.val (Option.some.inj named)
  · intro value
    exact ⟨value ▸ i.isLt, congrArg some (Fin.ext value)⟩

/-- A request with local authority passes the ownership test (R164). -/
theorem State.ownerOk_of_f (arrival : r.arrival = .f) : s.ownerOk k r = true := by
  unfold State.ownerOk
  rw [arrival]

/-- The ownership test reads the kinds that write a stream's entry or route, and no other (R164). -/
theorem State.ownerOk_of_kind (kind : ¬ (k = .writeStream ∨ k = .clearStream ∨ k = .stageRoute)) : s.ownerOk k r = true := by
  unfold State.ownerOk
  cases r.arrival with
  | f => rfl
  | cable c =>
    cases k with
    | writeStream | clearStream | stageRoute => simp at kind
    | _ => rfl

/-- On a cable port the three kinds are refused exactly for a valid entry that another frame owns (R164). -/
theorem State.ownerOk_eq_false_iff_of_kind {c : Cable} (remote : r.arrival = .cable c)
    (kind : k = .writeStream ∨ k = .clearStream ∨ k = .stageRoute) : s.ownerOk k r = false ↔
      ∃ n : StreamNo, (r.op 0).toNat = n.val ∧ (s.entry n).valid = true ∧ (s.entry n).owner ≠ r.msg.origin := by
  simp only [← finOf?_eq_some_iff]
  cases named : finOf? 64 (r.op 0) with
  | none => rcases kind with rfl | rfl | rfl <;> simp [State.ownerOk, remote, named]
  | some n => rcases kind with rfl | rfl | rfl <;> simp [State.ownerOk, remote, named]

theorem State.ownerOk_eq_false_iff : s.ownerOk k r = false ↔
    (∃ c, r.arrival = .cable c) ∧ (k = .writeStream ∨ k = .clearStream ∨ k = .stageRoute) ∧
      ∃ n : StreamNo, (r.op 0).toNat = n.val ∧ (s.entry n).valid = true ∧ (s.entry n).owner ≠ r.msg.origin := by
  cases arrival : r.arrival with
  | f => simp [State.ownerOk_of_f arrival]
  | cable c =>
    by_cases kind : k = .writeStream ∨ k = .clearStream ∨ k = .stageRoute
    · simp only [State.ownerOk_eq_false_iff_of_kind arrival kind, kind, true_and, Port.cable.injEq, exists_eq']
    · simp only [State.ownerOk_of_kind kind, kind, false_and, and_false, Bool.true_eq_false]

end

/-- Settles O4: by the first of the tests that fails, and by what the tests of authority and ownership read. -/
theorem refusedRequests : Obligations.RefusedRequests := by
  intro s r
  refine ⟨fun rest hb => ⟨fun k h => ⟨fun count => ?_, fun count authority => ?_, fun count authority owner => ?_⟩,
    hb.exec_unknownRequestKind⟩, fun k => ⟨State.authorityOk_eq_false_iff, State.ownerOk_eq_false_iff⟩⟩
  · exact h.exec_refused hb (State.refusal?_of_count count)
  · exact h.exec_refused hb (State.refusal?_of_authority count authority)
  · exact h.exec_refused hb (State.refusal?_of_owner count authority owner)

end Sys2Proof.Machine
end

section
/-! PROOF. The frame route table (R172, R173). Both rows change at most a route, which neither an arbiter, a HELLO nor the notice unit
reads, so that they end with their reply; what is left is which port a frame is forwarded by, and which words name an entry. -/

namespace Sys2Proof.Machine

/-! ### Operand words of cable ports -/

theorem cableOf?_cableWord (c : Cable) : cableOf? (cableWord c) = some c := by cases c <;> rfl

theorem cableWord_ne_absentWord (c : Cable) : cableWord c ≠ absentWord := by cases c <;> decide

theorem cableOf?_eq_none {w : Word} (h : 4 ≤ w.toNat) : cableOf? w = none := by
  rcases Nat.eq_or_lt_of_le h with four | beyond
  · simp only [cableOf?, portOf?_of_number (p := .f) four.symm]
  · simp only [cableOf?, portOf?_eq_none beyond]

theorem optOf?_cableWord (o : Option Cable) : optOf? cableOf? (optWord cableWord o) = some o :=
  optOf?_optWord cableOf?_cableWord cableWord_ne_absentWord o

theorem optOf?_ne_some_none {α : Type} {f : Word → Option α} {w : Word} (present : w ≠ absentWord) :
    optOf? f w ≠ some none := by
  simp [optOf?, present]

/-! ### The port a frame is forwarded by -/

section
variable {s : State} {f : Frame}

theorem State.filter_active_eq_none {o : Option Cable} (inactive : ∀ c, o = some c → (s.cable c).state ≠ .active) :
    o.filter (fun c => s.isActive (.cable c)) = none :=
  Option.filter_eq_none_iff.mpr fun c ho => by simpa [State.isActive] using inactive c ho

theorem State.filter_active_eq_some {o : Option Cable} {c : Cable} (ho : o = some c) (active : (s.cable c).state = .active) :
    o.filter (fun c => s.isActive (.cable c)) = some c :=
  Option.filter_eq_some_iff.mpr ⟨ho, by simpa [State.isActive] using active⟩

theorem State.routeTo_of_primary {c : Cable} (primary : s.ctl.routes[f].primary = some c)
    (active : (s.cable c).state = .active) : s.routeTo f = some c := by
  simp only [State.routeTo, State.filter_active_eq_some primary active]

/-- With no ACTIVE primary the alternate alone decides (R174). -/
theorem State.routeTo_of_no_primary (inactive : ∀ c, s.ctl.routes[f].primary = some c → (s.cable c).state ≠ .active) :
    s.routeTo f = s.ctl.routes[f].alternate.filter fun c => s.isActive (.cable c) := by
  simp only [State.routeTo, State.filter_active_eq_none inactive]

/-- The word for the current port of a frame, by R173's cases: its primary, its alternate, no port. -/
theorem State.routeTo_word {current : Word}
    (hprimary : ∀ c, s.ctl.routes[f].primary = some c → (s.cable c).state = .active → current = cableWord c)
    (halternate : (∀ c, s.ctl.routes[f].primary = some c → (s.cable c).state ≠ .active) →
      (∀ c, s.ctl.routes[f].alternate = some c → (s.cable c).state = .active → current = cableWord c) ∧
      ((∀ c, s.ctl.routes[f].alternate = some c → (s.cable c).state ≠ .active) → current = absentWord)) :
    optWord cableWord (s.routeTo f) = current := by
  by_cases primary : ∃ c, s.ctl.routes[f].primary = some c ∧ (s.cable c).state = .active
  · obtain ⟨c, route, active⟩ := primary
    rw [State.routeTo_of_primary route active, hprimary c route active, optWord]
  · have no_primary c (route : s.ctl.routes[f].primary = some c) : (s.cable c).state ≠ .active :=
      fun active => primary ⟨c, route, active⟩
    obtain ⟨by_alternate, by_none⟩ := halternate no_primary
    rw [State.routeTo_of_no_primary no_primary]
    by_cases alternate : ∃ c, s.ctl.routes[f].alternate = some c ∧ (s.cable c).state = .active
    · obtain ⟨c, route, active⟩ := alternate
      rw [State.filter_active_eq_some route active, by_alternate c route active, optWord]
    · have no_alternate c (route : s.ctl.routes[f].alternate = some c) : (s.cable c).state ≠ .active :=
        fun active => alternate ⟨c, route, active⟩
      rw [State.filter_active_eq_none no_alternate, by_none no_alternate, optWord]

end

/-! ### READ FRAME ROUTE -/

theorem exec_readFrameRoute (s : State) : exec .readFrameRoute s = s.serve .readFrameRoute readFrameRouteAct := rfl

theorem readFrameRouteAct_decoded (s : State) {r : Request} {f : Frame} (hf : finOf? 32 (r.op 0) = some f) {current : Word}
    (own : f = s.frame → current = absentWord) (other : f ≠ s.frame → optWord cableWord (s.routeTo f) = current) :
    readFrameRouteAct s r = .done (Work.of s)
      [optWord cableWord s.ctl.routes[f].primary, optWord cableWord s.ctl.routes[f].alternate, current] := by
  have word : (if f = s.frame then absentWord else optWord cableWord (s.routeTo f)) = current := by
    split
    · next same => exact (own same).symm
    · next differs => exact other differs
  simp only [readFrameRouteAct, hf, word]

theorem readFrameRouteAct_undecodable (s : State) {r : Request} (h : finOf? 32 (r.op 0) = none) :
    readFrameRouteAct s r = .refuse s .range := by
  simp only [readFrameRouteAct, h]

/-! ### WRITE FRAME ROUTE -/

/-- The words of a primary, and of an alternate only beside a primary it differs from, name that entry (R172). -/
theorem Request.frameRoute?_of_operands {r : Request} {p a : Option Cable} (hp : r.op 1 = optWord cableWord p)
    (ha : r.op 2 = optWord cableWord a) (legal : a.isSome → p.isSome ∧ a ≠ p) : r.frameRoute? = some ⟨p, a⟩ := by
  unfold Request.frameRoute?
  rw [hp, ha, optOf?_cableWord, optOf?_cableWord]
  cases p with
  | none =>
    cases a with
    | none => rfl
    | some a => exact absurd (legal rfl).1 (by decide)
  | some p =>
    cases a with
    | none => rfl
    | some a => exact if_neg fun same => (legal rfl).2 (congrArg some same)

/-- What a WRITE FRAME ROUTE's port words decode to when they name an entry: an alternate stands beside a primary that differs. -/
theorem Request.frameRoute?_eq_some {r : Request} {e : FrameRoute} (h : r.frameRoute? = some e) :
    optOf? cableOf? (r.op 1) = some e.primary ∧ optOf? cableOf? (r.op 2) = some e.alternate ∧
      (e.alternate.isSome → e.primary.isSome ∧ e.alternate ≠ e.primary) := by
  unfold Request.frameRoute? at h
  split at h
  · next primary alternate => cases h; exact ⟨primary, alternate, nofun⟩
  · next primary alternate => cases h; exact ⟨primary, alternate, nofun⟩
  · next primary alternate =>
    split at h
    · exact absurd h nofun
    · next differs => cases h; exact ⟨primary, alternate, fun _ => ⟨rfl, fun same => differs (Option.some.inj same)⟩⟩
  · exact absurd h nofun

theorem Request.frameRoute?_eq_none_of_undecodable {r : Request}
    (h : optOf? cableOf? (r.op 1) = none ∨ optOf? cableOf? (r.op 2) = none) : r.frameRoute? = none := by
  rw [Option.eq_none_iff_forall_ne_some]
  intro e named
  obtain ⟨primary, alternate, _⟩ := Request.frameRoute?_eq_some named
  simp [primary, alternate] at h

/-- An alternate without a primary, or the same port twice, names no entry (R172). -/
theorem Request.frameRoute?_eq_none_of_alternate {r : Request} (present : r.op 2 ≠ absentWord)
    (illegal : r.op 1 = absentWord ∨ r.op 2 = r.op 1) : r.frameRoute? = none := by
  rw [Option.eq_none_iff_forall_ne_some]
  intro e named
  obtain ⟨primary, alternate, legal⟩ := Request.frameRoute?_eq_some named
  have alternate_some : e.alternate.isSome := by
    rw [Option.isSome_iff_ne_none]
    intro none
    exact optOf?_ne_some_none present (none ▸ alternate)
  obtain ⟨primary_some, differs⟩ := legal alternate_some
  rcases illegal with absent | same
  · rw [absent] at primary
    have : e.primary = none := (Option.some.inj primary).symm
    simp [this] at primary_some
  · rw [same] at alternate
    exact differs (Option.some.inj (alternate.symm.trans primary))

theorem exec_writeFrameRoute (s : State) : exec .writeFrameRoute s = s.serve .writeFrameRoute writeFrameRouteAct := rfl

theorem writeFrameRouteAct_decoded (s : State) {r : Request} {f : Frame} {e : FrameRoute} (hf : finOf? 32 (r.op 0) = some f)
    (he : r.frameRoute? = some e) :
    writeFrameRouteAct s r = .done (Work.of (s.modCtl fun x => { x with routes := x.routes.set f e })) := by
  simp only [writeFrameRouteAct, hf, he]

theorem writeFrameRouteAct_undecodable (s : State) {r : Request} (h : finOf? 32 (r.op 0) = none ∨ r.frameRoute? = none) :
    writeFrameRouteAct s r = .refuse s .range := by
  unfold writeFrameRouteAct
  split
  · next hf he => simp [hf, he] at h
  · rfl

/-- Settles O9: READ FRAME ROUTE by the frame and its route, WRITE FRAME ROUTE by whether its operands name an entry. -/
theorem frameRoutes : Obligations.FrameRoutes := by
  intro s r rest hb
  rw [exec_readFrameRoute, exec_writeFrameRoute]
  refine ⟨fun h => ⟨fun f frame current own primary alternate => ?_, fun outside => ?_⟩,
    fun h => ⟨fun f p a frame hp ha legal => ?_, fun undecodable => ?_⟩⟩
  · have other (differs : f ≠ s.frame) : optWord cableWord ((s.popped rest).routeTo f) = current :=
      State.routeTo_word (s := s.popped rest) (primary differs) (alternate differs)
    exact h.ends_apart hb (readFrameRouteAct_decoded _ (finOf?_eq_some_iff.mpr frame) own other)
      rfl rfl rfl rfl rfl rfl rfl rfl
  · exact h.ends_refused hb (readFrameRouteAct_undecodable _ (finOf?_eq_none outside))
  · exact h.ends_apart hb (writeFrameRouteAct_decoded _ (finOf?_eq_some_iff.mpr frame)
      (Request.frameRoute?_of_operands hp ha legal)) rfl rfl rfl rfl rfl rfl rfl rfl
  · refine h.ends_refused hb (writeFrameRouteAct_undecodable _ (undecodable.imp finOf?_eq_none ?_))
    rintro (⟨large, present⟩ | ⟨large, present⟩ | ⟨present, illegal⟩)
    · exact Request.frameRoute?_eq_none_of_undecodable (.inl (optOf?_eq_none present (cableOf?_eq_none large)))
    · exact Request.frameRoute?_eq_none_of_undecodable (.inr (optOf?_eq_none present (cableOf?_eq_none large)))
    · exact Request.frameRoute?_eq_none_of_alternate present illegal

end Sys2Proof.Machine
end

section
/-! PROOF. CLEAR COUNTERS (R191). The row writes the counter bank alone, which neither an arbiter, a HELLO nor the notice unit reads,
so that it ends with its reply; what is left is which words name a group, and which counters the clearing of a group sets to 0. -/

namespace Sys2Proof

/-! ### Port numbers -/

theorem Port.number_le_four (p : Port) : p.number ≤ 4 := by
  rcases p with (_ | _ | _ | _) | _ <;> decide

theorem Port.ofNat?_eq_some {n : Nat} {p : Port} (h : Port.ofNat? n = some p) : n = p.number := by
  unfold Port.ofNat? at h
  split at h <;> cases h <;> rfl

end Sys2Proof

namespace Sys2Proof.Machine

/-! ### The group that two words name -/

theorem eq_natWord_iff {w : Word} {n : Nat} (fits : n < 2 ^ 32) : w = natWord n ↔ w.toNat = n := by
  rw [← BitVec.toNat_inj, natWord_toNat fits]

theorem finOf?_eq_some_iff_eq_natWord {n : Nat} (hn : n ≤ 2 ^ 32) {w : Word} {i : Fin n} :
    finOf? n w = some i ↔ w = natWord i.val := by
  rw [finOf?_eq_some_iff, eq_natWord_iff (Nat.lt_of_lt_of_le i.isLt hn)]

theorem portOf?_eq_some_iff {w : Word} {p : Port} : portOf? w = some p ↔ w = portWord p := by
  have fits : p.number < 2 ^ 32 := Nat.lt_of_le_of_lt p.number_le_four (by decide)
  rw [portWord, eq_natWord_iff fits]
  exact ⟨Port.ofNat?_eq_some, portOf?_of_number⟩

/-- The words that name a group decode to it (R190). -/
theorem groupOf?_of_namedBy {g : Group} {kind index : Word} (h : g.NamedBy kind index) :
    groupOf? kind index = some g := by
  cases g with
  | link p =>
    obtain ⟨rfl, port⟩ := h
    exact congrArg (Option.map Group.link) (portOf?_eq_some_iff.mpr port)
  | traffic p =>
    obtain ⟨rfl, port⟩ := h
    exact congrArg (Option.map Group.traffic) (portOf?_eq_some_iff.mpr port)
  | stream n =>
    obtain ⟨rfl, number⟩ := h
    exact congrArg (Option.map Group.stream) ((finOf?_eq_some_iff_eq_natWord (by decide)).mpr number)
  | timing | trigger | control => cases h; rfl

/-- A group that two words decode to is named by them (R190). -/
theorem namedBy_of_groupOf?_eq_some {g : Group} {kind index : Word} (h : groupOf? kind index = some g) :
    g.NamedBy kind index := by
  unfold groupOf? at h
  split at h
  case h_1 kind_eq =>
    obtain ⟨p, port, rfl⟩ := Option.map_eq_some_iff.mp h
    exact ⟨BitVec.eq_of_toNat_eq kind_eq, portOf?_eq_some_iff.mp port⟩
  case h_2 kind_eq =>
    obtain ⟨p, port, rfl⟩ := Option.map_eq_some_iff.mp h
    exact ⟨BitVec.eq_of_toNat_eq kind_eq, portOf?_eq_some_iff.mp port⟩
  case h_3 kind_eq =>
    obtain ⟨n, number, rfl⟩ := Option.map_eq_some_iff.mp h
    exact ⟨BitVec.eq_of_toNat_eq kind_eq, (finOf?_eq_some_iff_eq_natWord (by decide)).mp number⟩
  case h_4 kind_eq | h_5 kind_eq | h_6 kind_eq =>
    cases h
    exact BitVec.eq_of_toNat_eq kind_eq
  case h_7 => cases h

theorem groupOf?_eq_none {kind index : Word} (h : ∀ g : Group, ¬ g.NamedBy kind index) : groupOf? kind index = none :=
  Option.eq_none_iff_forall_ne_some.mpr fun g named => h g (namedBy_of_groupOf?_eq_some named)

/-! ### The clearing of a group -/

theorem Bank.clear_get_own (b : Bank) (i : CounterId) : (b.clear i.group).get i = 0#32 := by
  cases i <;> simp [Bank.clear, Bank.get, CounterId.group]

/-- A counter outside the group lies in another part of the bank, or at another port or stream number of the same part. -/
theorem Bank.clear_get_other (b : Bank) {g : Group} {i : CounterId} (other : i.group ≠ g) : (b.clear g).get i = b.get i := by
  cases g with
  | link p =>
    cases i with
    | link q c =>
      have differs : q ≠ p := fun same => other (congrArg Group.link same)
      simp only [Bank.clear, Bank.get, PerPort.get_set_ne _ _ differs]
    | _ => rfl
  | traffic p =>
    cases i with
    | traffic q c =>
      have differs : q ≠ p := fun same => other (congrArg Group.traffic same)
      simp only [Bank.clear, Bank.get, PerPort.get_set_ne _ _ differs]
    | _ => rfl
  | stream n =>
    cases i with
    | stream m c =>
      have differs : n.val ≠ m.val := fun same => other (congrArg Group.stream (Fin.ext same.symm))
      simp [Bank.clear, Bank.get, differs]
    | _ => rfl
  | timing =>
    cases i with
    | timing c => exact absurd rfl other
    | _ => rfl
  | trigger =>
    cases i with
    | trigger c => exact absurd rfl other
    | _ => rfl
  | control =>
    cases i with
    | control c => exact absurd rfl other
    | _ => rfl

/-! ### CLEAR COUNTERS -/

theorem exec_clearCounters (s : State) : exec .clearCounters s = s.serve .clearCounters clearCountersAct := rfl

theorem clearCountersAct_named (s : State) {r : Request} {g : Group} (h : groupOf? (r.op 0) (r.op 1) = some g) :
    clearCountersAct s r = .done (Work.of { s with counters := s.counters.clear g }) := by
  simp only [clearCountersAct, h]

theorem clearCountersAct_unnamed (s : State) {r : Request} (h : groupOf? (r.op 0) (r.op 1) = none) :
    clearCountersAct s r = .refuse s .range := by
  simp only [clearCountersAct, h]

/-- Settles O20: by whether the two words name a group, and for each counter by whether it is of the group cleared. -/
theorem clearCounters : Obligations.ClearCounters := by
  refine ⟨fun s r rest hb h => ?_, fun b g i => ?_⟩
  · rw [exec_clearCounters]
    refine ⟨fun g named => ?_, fun unnamed => ?_⟩
    · exact h.ends_apart hb (clearCountersAct_named _ (groupOf?_of_namedBy named)) rfl rfl rfl rfl rfl rfl rfl rfl
    · exact h.ends_refused hb (clearCountersAct_unnamed _ (groupOf?_eq_none unnamed))
  · split
    · next own => exact own ▸ b.clear_get_own i
    · next other => exact b.clear_get_other other

end Sys2Proof.Machine
end

section
/-! PROOF. READ IDENTITY (R198). The row only takes its request from the queue, which neither an arbiter, a HELLO nor the notice unit
reads, so that it ends with its reply; what is left is that a request with no operand passes the tests, and the words of its results. -/

namespace Sys2Proof.Machine

/-! ### Why READ IDENTITY passes tests 2 to 4 -/

/-- The authority test can refuse a HUB RESTART and a SET FRAME NUMBER, and no other kind (R163). -/
theorem State.authorityOk_of_kind {s : State} {k : ReqKind} {r : Request} (restart : k ≠ .hubRestart)
    (rename : k ≠ .setFrameNumber) : s.authorityOk k r = true := by
  rw [← Bool.not_eq_false, State.authorityOk_eq_false_iff]
  rintro ⟨_, restarts | ⟨renames, _⟩⟩
  · exact restart restarts
  · exact rename renames

theorem State.Heads.serves_readIdentity {s : State} {r : Request} {rest : List Request} (h : s.Heads .readIdentity r rest)
    (none_carried : r.msg.operands = []) : s.Serves .readIdentity r rest where
  toHeads := h
  count := congrArg List.length none_carried
  authority := State.authorityOk_of_kind (by decide) (by decide)
  owner := State.ownerOk_of_kind (by decide)

/-! ### READ IDENTITY -/

theorem roleWord_eq_ite (x : Role) : roleWord x = if x = .source then 1#32 else 0#32 := by cases x <;> rfl

/-- The seven results do not depend on the request queue, and are the words of R198 in order. -/
theorem State.identity_popped (s : State) (rest : List Request) : (s.popped rest).identity =
    [0x0B45#32, 1#32, s.straps.fn.setWidth 32, if s.straps.src then 1#32 else 0#32, if s.straps.admits then 1#32 else 0#32,
     BitVec.ofNat 32 s.frame.val, if s.time.role = .source then 1#32 else 0#32] := by
  rw [← roleWord_eq_ite]
  rfl

theorem exec_readIdentity (s : State) : exec .readIdentity s = s.serve .readIdentity readIdentityAct := rfl

theorem readIdentityAct_eq (s : State) (r : Request) : readIdentityAct s r = .done (Work.of s) s.identity := rfl

/-- Settles O6: the request passes the tests, and the state that its reply joins is the one without it. -/
theorem readIdentity : Obligations.ReadIdentity := by
  intro s r rest hb h none_carried
  have serves := h.serves_readIdentity none_carried
  rw [exec_readIdentity, ← s.identity_popped rest]
  exact serves.ends_apart hb (readIdentityAct_eq _ r) rfl rfl rfl rfl rfl rfl rfl rfl

end Sys2Proof.Machine
end
